-- ==== Sys2Proof/Syntax.lean ====
section
/-! DEFINITION. The commands of HOTP-TCE, one constructor per row of spec/opcode_table.json
(spec/30_encoding.md R94). No command carries an operand (R93). -/

namespace Sys2Proof

/-- The seven commands of the opcode map (R94). A word that decodes ILLEGAL (R92) is no command; `decode` names it. -/
inductive Instr where
  | nop       -- 0x0, R160
  | encode    -- 0x1, R111
  | truncate  -- 0x2, R121
  | reduce    -- 0x3, R131
  | format    -- 0x4, R141
  | generate  -- 0x5, R151
  | clear     -- 0x6, R165
  deriving DecidableEq, Repr

end Sys2Proof
end

