-- ==== Sys2Proof/Word.lean ====
section
/-! DEFINITION. The word and byte types of the register window (spec/00_scope.md R7, R9). -/

namespace Sys2Proof

/-- A register of the window is 32 bits wide (R7, REG_WIDTH). -/
abbrev Word := BitVec 32

/-- A byte of the message, the digest or the code (R10). -/
abbrev Byte := BitVec 8

end Sys2Proof
end

