-- ==== Sys2Proof/WellFormed.lean ====
section
/-! DEFINITION. Which command words and commands are well formed (spec/30_encoding.md R91-R95). -/

namespace Sys2Proof

/-- Bits 31:4 of the command word, RES, are zero (R91). -/
def resClear (w : Word) : Bool := w.extractLsb' 4 28 == 0

/-- Bits 3:0 of the command word, OP, are one of the assigned operation codes 0x0 to 0x6 (R94). -/
def opAssigned (w : Word) : Bool := decide ((w.extractLsb' 0 4).toNat ≤ 6)

/-- A command word is legal when RES is zero and OP is assigned; every other word is illegal (R95). -/
def wordLegal (w : Word) : Bool := resClear w && opAssigned w

/-- Every command is well formed: a command has no operand, register number or immediate (R93), so there is no field
that could hold an illegal value. -/
def Instr.wf : Instr → Bool
  | .nop => true
  | .encode => true
  | .truncate => true
  | .reduce => true
  | .format => true
  | .generate => true
  | .clear => true

end Sys2Proof
end

