-- ==== Sys2Proof/Decode.lean ====
section
/-! DEFINITION. The decoder and the encoder of the command word (spec/30_encoding.md R90-R96). -/

namespace Sys2Proof

/-- Why a word is ILLEGAL (R92, R95). Both reasons complete with the same code (spec/60_exceptions.md R177). -/
inductive Illegal where
  | reservedBits    -- w[31:4] is not zero
  | reservedOpcode  -- w[31:4] is zero and OP is 0x7..0xF
  deriving DecidableEq, Repr

/-- What a command word is: a command, or illegal for a named reason. -/
inductive Decoded where
  | command (i : Instr)
  | illegal (why : Illegal)
  deriving DecidableEq, Repr

/-- `decode(w)` of R92, total on all 2^32 words. -/
def decode (w : Word) : Decoded :=
  if w.extractLsb' 4 28 ≠ 0 then .illegal .reservedBits
  else
    match (w.extractLsb' 0 4).toNat with
    | 0 => .command .nop
    | 1 => .command .encode
    | 2 => .command .truncate
    | 3 => .command .reduce
    | 4 => .command .format
    | 5 => .command .generate
    | 6 => .command .clear
    | _ => .illegal .reservedOpcode

/-- The command word of each command, from the opcode map (R94). -/
def encode : Instr → Word
  | .nop => 0x00000000#32
  | .encode => 0x00000001#32
  | .truncate => 0x00000002#32
  | .reduce => 0x00000003#32
  | .format => 0x00000004#32
  | .generate => 0x00000005#32
  | .clear => 0x00000006#32

/-- The word that a table row of `nbits` bits with value `w` stands for: the bits above `nbits` are zero, and the command
word has 32 (R90). -/
def tableWord (nbits w : Nat) : Word := BitVec.ofNat 32 (w % 2 ^ nbits)

/-- The command that the decoder reads from a table row's word, none where it finds the word illegal. -/
def decodeTableWord (nbits w : Nat) : Option Instr :=
  match decode (tableWord nbits w) with
  | .command i => some i
  | .illegal _ => none

end Sys2Proof
end

