-- ==== Sys2Proof/Config.lean ====
section
/-! DEFINITION. The open parameters of spec/00_scope.md R8 that the model's definitions use. Each is an opaque constant
with no body, so no proof can learn its value and every statement holds for every value of it. LATENCY and RESET_STYLE have no
constant here: log entries 6 and 7 say why. -/

namespace Sys2Proof.Config

/-- BASE_ADDR: the system address of offset 0x00, the platform's choice (R8, spec/20_memory.md R60). Log entry 4. -/
opaque baseAddr : Nat

/-- BUS_PROTOCOL: whether an ERROR response to a read carries data (spec/60_exceptions.md R181). Log entry 5. -/
opaque errorCarriesData : Bool

/-- BUS_PROTOCOL: whether an ERROR response reports the kind of the error (spec/60_exceptions.md R182). Log entry 5. -/
opaque reportsErrorKind : Bool

end Sys2Proof.Config
end

