-- ==== Sys2Proof/Machine/State.lean ====
section
/-! DEFINITION. The state of HOTP-TCE: the tuple of spec/10_state.md R49, and beside it the two fields of the model's own,
what the agents do next and what the outside has seen. -/

namespace Sys2Proof.Machine

/-- The direction of a bus transaction, with the write data of a write (spec/20_memory.md R60). -/
inductive Access where
  | read
  | write (wdata : Word)
  deriving DecidableEq, Repr

/-- The size of a bus transaction: 1, 2 or 4 bytes (R60). -/
inductive Size where
  | byte
  | half
  | word
  deriving DecidableEq, Repr

/-- Which bus master issues a transaction. It is the outside's own label: no transaction carries it to the block
(spec/20_memory.md R78, spec/60_exceptions.md R191). Log entry 16. -/
abbrev Master := Nat

/-- A bus transaction that has reached the block, at an 8-bit offset of the register window (R60). -/
structure Txn where
  access : Access
  off    : BitVec 8
  size   : Size
  deriving DecidableEq, Repr

/-- A bus transaction in the system, at a system address, before the platform's decode (R60). -/
structure SysTxn where
  access : Access
  addr   : Nat
  size   : Size
  deriving DecidableEq, Repr

/-- The kinds of bus error (spec/60_exceptions.md R181). -/
inductive BusError where
  | width
  | unmapped
  | readOnly
  | busy
  deriving DecidableEq, Repr

/-- The response to a transaction (R60): OK with 32 bits of data (0 for a write), or ERROR. The kind of the error is recorded
by the model (spec/60_exceptions.md R182). -/
inductive Response where
  | ok (rdata : Word)
  | error (kind : BusError)
  deriving DecidableEq, Repr

/-- One turn of one agent (spec/00_scope.md R17). A reset may abort a transaction in progress (spec/20_memory.md R61). -/
inductive Event where
  | bus (m : Master) (t : Txn)
  | sys (m : Master) (x : SysTxn)
  | engine
  | reset (inProgress : Option Txn)
  deriving DecidableEq, Repr

/-- What the outside of the block can tell of a step: a master's transaction with its response, the code of a completion
(spec/70_reset_and_hazards.md R217: a model that needs every code logs it outside the block's state), a reset. -/
inductive Observation where
  | served (m : Master) (t : Txn) (r : Response)
  | completed (errcode : BitVec 4)
  | wasReset (aborted : Option Txn)
  deriving DecidableEq, Repr

/-- The state: every component of R49 under its own name, then the model's own `agenda` and `trace`. -/
structure State where
  /-- CTRL.ALG, stored as written (R24, R25). -/
  alg     : BitVec 2
  /-- CTRL.DIGITS, stored as written (R24, R26). -/
  digits  : BitVec 4
  /-- COUNTER = COUNTER_HI ++ COUNTER_LO (R36). -/
  counter : BitVec 64
  /-- The message bytes MB(0..7) (R37). -/
  msg     : Vector Byte 8
  /-- STATUS.MSGV (R33). -/
  msgv    : Bool
  /-- DIGEST_W[0..15] (R43). -/
  digest  : Vector Word 16
  /-- DVALID, bit k for DIGEST_W[k] (R35). -/
  dvalid  : BitVec 16
  /-- OFFSET (R38). -/
  offset  : BitVec 4
  /-- STATUS.TV (R33). -/
  tv      : Bool
  /-- TRUNC (R39). -/
  trunc   : BitVec 31
  /-- VALUE (R40). -/
  value   : BitVec 31
  /-- STATUS.VV (R33). -/
  vv      : Bool
  /-- DINFO.VDIGITS (R41). -/
  vdigits : BitVec 4
  /-- The code bytes CB(0..11) (R42). -/
  code    : Vector Byte 12
  /-- DINFO.CODELEN (R41). -/
  codelen : BitVec 4
  /-- STATUS.CV (R33). -/
  cv      : Bool
  /-- STATUS.BUSY (R30). -/
  busy    : Bool
  /-- STATUS.DONE (R31). -/
  done    : Bool
  /-- STATUS.ERR (R32). -/
  err     : Bool
  /-- STATUS.ERRCODE (R32). -/
  errcode : BitVec 4
  /-- STATUS.LASTOP (R34). -/
  lastop  : BitVec 4
  /-- PEND, the hidden pending command word (R44). -/
  pend    : Word
  /-- The model's own: the turns the agents take next, in order. DESIGN CHOICE, log entry 1. -/
  agenda  : List Event
  /-- The model's own: what the outside has seen so far, newest first. DESIGN CHOICE, log entry 3. -/
  trace   : List Observation
  deriving DecidableEq, Repr

/-- Why the machine could stop. It has no constructor: nothing in the spec stops HOTP-TCE (spec/60_exceptions.md R171, R181,
R184). Safe: no run ends in a fault. Log entry 8. -/
inductive Fault where
  deriving DecidableEq, Repr

/-- Why a step could have no meaning. -/
inductive Refusal where
  /-- An instruction that has no meaning yet, by its mnemonic. The host's constructor: no arm of `exec` raises it now. Safe: it
  stops where the hardware goes on. -/
  | notModelled (mnemonic : String)
  deriving DecidableEq, Repr

/-- The state right after reset: ALG = 0, DIGITS = 6 and every other component 0 (spec/10_state.md R50); the agents'
agenda and the trace are empty (log entries 1 and 3). -/
def State.reset : State where
  alg := 0
  digits := 6
  counter := 0
  msg := #v[0, 0, 0, 0, 0, 0, 0, 0]
  msgv := false
  digest := #v[0, 0, 0, 0, 0, 0, 0, 0, 0, 0, 0, 0, 0, 0, 0, 0]
  dvalid := 0
  offset := 0
  tv := false
  trunc := 0
  value := 0
  vv := false
  vdigits := 0
  code := #v[0, 0, 0, 0, 0, 0, 0, 0, 0, 0, 0, 0]
  codelen := 0
  cv := false
  busy := false
  done := false
  err := false
  errcode := 0
  lastop := 0
  pend := 0
  agenda := []
  trace := []

end Sys2Proof.Machine
end

