-- ==== Sys2Proof/Machine/Operands.lean ====
section
/-! DEFINITION. The operand forms of the commands: byte views of the packed buffers (spec/00_scope.md R10,
spec/20_memory.md R70), the arithmetic primitives (R13), and the four stages of the datapath as functions of their operands. -/

namespace Sys2Proof.Machine

/-- `BE32(b0, b1, b2, b3)` = b0*2^24 + b1*2^16 + b2*2^8 + b3 (R13). -/
def be32 (b0 b1 b2 b3 : Byte) : Word := b0 ++ b1 ++ b2 ++ b3

/-- `DB(i)`: byte i of the digest, in word i div 4 at bits [31 - 8*(i mod 4) : 24 - 8*(i mod 4)] (R10, R43). -/
def digestByte (digest : Vector Word 16) (i : Fin 64) : Byte :=
  digest[i.val / 4].extractLsb' (24 - 8 * (i.val % 4)) 8

/-- The hash algorithms in scope (R3, spec/10_state.md R25). -/
inductive Alg where
  | sha1
  | sha256
  | sha512
  deriving DecidableEq, Repr

/-- The algorithm CTRL.ALG selects, none for the value 3, which is not in the enumeration (R25). -/
def algOf (alg : BitVec 2) : Option Alg :=
  match alg.toNat with
  | 0 => some .sha1
  | 1 => some .sha256
  | 2 => some .sha512
  | _ => none

/-- `L(alg)` (R13) less one: the number of the digest's last byte (spec/41_truncation.md R120, R124). -/
def lastByte : Alg → Fin 64
  | .sha1 => 19
  | .sha256 => 31
  | .sha512 => 63

/-- `L(alg) div 4`: how many digest words the algorithm needs (R25, R35). -/
def digestWords : Alg → Nat
  | .sha1 => 5
  | .sha256 => 8
  | .sha512 => 16

/-- The test DVALID[nw-1:0] = 2^nw - 1 of spec/41_truncation.md R121: every digest word the algorithm needs was written. -/
def digestComplete (a : Alg) (dvalid : BitVec 16) : Bool :=
  (dvalid.extractLsb' 0 (digestWords a)).toNat == 2 ^ digestWords a - 1

/-- The truncation offset: the low nibble of the last digest byte (R121, R125). -/
def truncOffset (a : Alg) (digest : Vector Word 16) : BitVec 4 :=
  (digestByte digest (lastByte a)).extractLsb' 0 4

/-- Byte `off + j` of the digest, for the window of four bytes at a 4-bit offset; it lies in 0..18 (R122). -/
def windowByte (digest : Vector Word 16) (off : BitVec 4) (j : Fin 4) : Byte :=
  digestByte digest ⟨off.toNat + j.val, by have := off.isLt; have := j.isLt; omega⟩

/-- The four window bytes read big-endian (R121). -/
def truncWindow (digest : Vector Word 16) (off : BitVec 4) : Word :=
  be32 (windowByte digest off 0) (windowByte digest off 1) (windowByte digest off 2) (windowByte digest off 3)

/-- The truncated value: bits 30:0 of the window (R121, R123). -/
def truncValue (digest : Vector Word 16) (off : BitVec 4) : BitVec 31 :=
  (truncWindow digest off).extractLsb' 0 31

/-- The digit counts REDUCE and GENERATE accept: 1 to 10 (spec/10_state.md R26, spec/60_exceptions.md R173). -/
def digitsLegal (n : BitVec 4) : Bool := decide (1 ≤ n.toNat) && decide (n.toNat ≤ 10)

/-- `TRUNC mod pow10(n)`, stored in 31 bits (spec/42_modulo_reducer.md R131). -/
def reduceMod (t : BitVec 31) (n : BitVec 4) : BitVec 31 := BitVec.ofNat 31 (t.toNat % 10 ^ n.toNat)

/-- `digitchar(d)` = 0x30 + d (R13). -/
def digitChar (d : Nat) : Byte := BitVec.ofNat 8 (0x30 + d)

/-- `CB(j)` after formatting: a digit character below n, 0x00 from n on (spec/43_code_formatter.md R141). Log entry 11 is about
n = 0 and n > 10, which occur in no reachable state. -/
def codeChar (v : BitVec 31) (n : BitVec 4) (j : Nat) : Byte :=
  if j < n.toNat then digitChar (v.toNat / 10 ^ (n.toNat - 1 - j) % 10) else 0x00

/-- The twelve code bytes of a value in n places (R141). -/
def formatCode (v : BitVec 31) (n : BitVec 4) : Vector Byte 12 :=
  #v[codeChar v n 0, codeChar v n 1, codeChar v n 2, codeChar v n 3, codeChar v n 4, codeChar v n 5,
     codeChar v n 6, codeChar v n 7, codeChar v n 8, codeChar v n 9, codeChar v n 10, codeChar v n 11]

/-- `c[63 - 8*i : 56 - 8*i]`: byte i of the counter, byte 0 the most significant (spec/40_counter_encoder.md R111). -/
def counterByte (c : BitVec 64) (i : Nat) : Byte := c.extractLsb' (56 - 8 * i) 8

/-- The eight message bytes of a counter (R111). -/
def encodeCounter (c : BitVec 64) : Vector Byte 8 :=
  #v[counterByte c 0, counterByte c 1, counterByte c 2, counterByte c 3,
     counterByte c 4, counterByte c 5, counterByte c 6, counterByte c 7]

end Sys2Proof.Machine
end

