-- ==== Sys2Proof/Machine/Flags.lean ====
section
/-! DEFINITION. Every flag of HOTP-TCE: the STATUS fields (spec/10_state.md R29), what acceptance and completion do to them
(spec/70_reset_and_hazards.md R206, R207), the command error codes (spec/60_exceptions.md R170), and the updates of the stage
registers together with their valid flags (R33). -/

namespace Sys2Proof.Machine

/-- The command errors (R170). -/
inductive CmdError where
  | illegalCmd
  | invalidAlgorithm
  | unsupportedDigits
  | digestIncomplete
  | noTruncatedValue
  | noReducedValue
  deriving DecidableEq, Repr

/-- The code of a command error (R170). -/
def errorCode : CmdError → BitVec 4
  | .illegalCmd => 1
  | .invalidAlgorithm => 2
  | .unsupportedDigits => 3
  | .digestIncomplete => 4
  | .noTruncatedValue => 5
  | .noReducedValue => 6

/-- `complete(e)` (R207). -/
def complete (e : BitVec 4) (s : State) : State :=
  { s with busy := false, done := true, errcode := e, err := e != 0 }

/-- `accept(w)` (R206). -/
def accept (w : Word) (s : State) : State :=
  { s with pend := w, lastop := w.extractLsb' 0 4, busy := true, done := false, err := false, errcode := 0 }

/-- An ENCODE result: the message and MSGV (spec/40_counter_encoder.md R111). -/
def setMsg (m : Vector Byte 8) (s : State) : State := { s with msg := m, msgv := true }

/-- A truncation result: OFFSET, TRUNC and TV (spec/41_truncation.md R121). -/
def setTrunc (off : BitVec 4) (t : BitVec 31) (s : State) : State := { s with offset := off, trunc := t, tv := true }

/-- A reduction result: VALUE, VDIGITS and VV (spec/42_modulo_reducer.md R131). -/
def setValue (v : BitVec 31) (n : BitVec 4) (s : State) : State := { s with value := v, vdigits := n, vv := true }

/-- A formatting result: CODE, CODELEN and CV (spec/43_code_formatter.md R141). -/
def setCode (c : Vector Byte 12) (n : BitVec 4) (s : State) : State := { s with code := c, codelen := n, cv := true }

/-- A later stage's flag is cleared: VV (R33). -/
def clearVV (s : State) : State := { s with vv := false }

/-- A later stage's flag is cleared: CV (R33). -/
def clearCV (s : State) : State := { s with cv := false }

/-- Every datapath register and valid flag to 0, as CLEAR does (spec/44_composite_and_control.md R165). -/
def clearData (s : State) : State :=
  { s with
    msg := State.reset.msg, msgv := false
    digest := State.reset.digest, dvalid := 0
    offset := 0, trunc := 0, tv := false
    value := 0, vdigits := 0, vv := false
    code := State.reset.code, codelen := 0, cv := false }

/-- The STATUS word (R29): LASTOP 19:16, CV 11, VV 10, TV 9, MSGV 8, ERRCODE 7:4, ERR 2, DONE 1, BUSY 0, the rest 0. -/
def statusWord (s : State) : Word :=
  0#12 ++ s.lastop ++ 0#4 ++ BitVec.ofBool s.cv ++ BitVec.ofBool s.vv ++ BitVec.ofBool s.tv ++ BitVec.ofBool s.msgv
    ++ s.errcode ++ 0#1 ++ BitVec.ofBool s.err ++ BitVec.ofBool s.done ++ BitVec.ofBool s.busy

end Sys2Proof.Machine
end

