-- ==== Sys2Proof/Machine/Ops.lean ====
section
/-! DEFINITION. The named operations over the register window: its map, reads, writes, bus errors, the transaction as a whole,
the platform's decode, ending a command with an error, and reset. -/

namespace Sys2Proof.Machine

/-- The registers of the window (spec/10_state.md R22). -/
inductive Reg where
  | id
  | ctrl
  | cmd
  | status
  | dvalid
  | counterHi
  | counterLo
  | msgW0
  | msgW1
  | offset
  | trunc
  | value
  | dinfo
  | codeW0
  | codeW1
  | codeW2
  | digestW (k : Fin 16)
  deriving DecidableEq, Repr

/-- The offset of each register in the window (R22). -/
def regOffset : Reg → BitVec 8
  | .id => 0x00
  | .ctrl => 0x04
  | .cmd => 0x08
  | .status => 0x0C
  | .dvalid => 0x10
  | .counterHi => 0x14
  | .counterLo => 0x18
  | .msgW0 => 0x1C
  | .msgW1 => 0x20
  | .offset => 0x24
  | .trunc => 0x28
  | .value => 0x2C
  | .dinfo => 0x30
  | .codeW0 => 0x34
  | .codeW1 => 0x38
  | .codeW2 => 0x3C
  | .digestW k => BitVec.ofNat 8 (0x40 + 4 * k.val)

/-- The register at an aligned offset, none from 0x80 on (R22, spec/20_memory.md R62, R64). The low two bits of the offset
are not looked at here: `serve` has refused an offset that is not a multiple of 4 before it asks. -/
def regAt (off : BitVec 8) : Option Reg :=
  match off.toNat / 4 with
  | 0 => some .id
  | 1 => some .ctrl
  | 2 => some .cmd
  | 3 => some .status
  | 4 => some .dvalid
  | 5 => some .counterHi
  | 6 => some .counterLo
  | 7 => some .msgW0
  | 8 => some .msgW1
  | 9 => some .offset
  | 10 => some .trunc
  | 11 => some .value
  | 12 => some .dinfo
  | 13 => some .codeW0
  | 14 => some .codeW1
  | 15 => some .codeW2
  | k + 16 => if h : k < 16 then some (.digestW ⟨k, h⟩) else none

/-- The value a read of a register returns (spec/20_memory.md R65): reserved bits 0 (R27), ID the constant of R23, CMD 0
(R28), the byte buffers packed big-endian (R70). -/
def readReg (r : Reg) (s : State) : Word :=
  match r with
  | .id => 0x484F5450#32
  | .ctrl => 0#20 ++ s.digits ++ 0#6 ++ s.alg
  | .cmd => 0#32
  | .status => statusWord s
  | .dvalid => 0#16 ++ s.dvalid
  | .counterHi => s.counter.extractLsb' 32 32
  | .counterLo => s.counter.extractLsb' 0 32
  | .msgW0 => be32 s.msg[0] s.msg[1] s.msg[2] s.msg[3]
  | .msgW1 => be32 s.msg[4] s.msg[5] s.msg[6] s.msg[7]
  | .offset => 0#28 ++ s.offset
  | .trunc => 0#1 ++ s.trunc
  | .value => 0#1 ++ s.value
  | .dinfo => 0#20 ++ s.codelen ++ 0#4 ++ s.vdigits
  | .codeW0 => be32 s.code[0] s.code[1] s.code[2] s.code[3]
  | .codeW1 => be32 s.code[4] s.code[5] s.code[6] s.code[7]
  | .codeW2 => be32 s.code[8] s.code[9] s.code[10] s.code[11]
  | .digestW k => s.digest[k.val]

/-- A write to CTRL: ALG <- v[1:0], DIGITS <- v[11:8] (spec/20_memory.md R68, spec/10_state.md R24). -/
def writeCtrl (v : Word) (s : State) : State := { s with alg := v.extractLsb' 0 2, digits := v.extractLsb' 8 4 }

/-- A write to COUNTER_HI: COUNTER[63:32] <- v (R68). -/
def writeCounterHi (v : Word) (s : State) : State := { s with counter := v ++ s.counter.extractLsb' 0 32 }

/-- A write to COUNTER_LO: COUNTER[31:0] <- v (R68). -/
def writeCounterLo (v : Word) (s : State) : State := { s with counter := s.counter.extractLsb' 32 32 ++ v }

/-- A write to DIGEST_W[k]: the word is stored and DVALID[k] <- 1 (R68, R35, R43). -/
def writeDigest (k : Fin 16) (v : Word) (s : State) : State :=
  { s with digest := s.digest.set k.val v, dvalid := s.dvalid ||| BitVec.twoPow 16 k.val }

/-- The effect of a write to a writable register, none for a read-only one (R66, R68). -/
def writeReg (r : Reg) (v : Word) (s : State) : Option State :=
  match r with
  | .ctrl => some (writeCtrl v s)
  | .cmd => some (accept v s)
  | .counterHi => some (writeCounterHi v s)
  | .counterLo => some (writeCounterLo v s)
  | .digestW k => some (writeDigest k v s)
  | .id | .status | .dvalid | .msgW0 | .msgW1 | .offset | .trunc | .value | .dinfo | .codeW0 | .codeW1 | .codeW2 => none

/-- Only aligned 32-bit accesses are legal (R63). -/
def legalWidth (t : Txn) : Bool := t.size == .word && t.off.toNat % 4 == 0

/-- The register that a transaction of legal width names, if its offset is mapped (R62, R63). -/
def target (t : Txn) : Option Reg := if legalWidth t then regAt t.off else none

/-- A bus transaction: the state after it and its response, with the error kinds in the order WIDTH, UNMAPPED, READONLY, BUSY
(R63-R68, spec/60_exceptions.md R181, R182). An ERROR leaves the state as it was. -/
def serve (t : Txn) (s : State) : State × Response :=
  if legalWidth t then
    match regAt t.off with
    | none => (s, .error .unmapped)
    | some r =>
      match t.access with
      | .read => (s, .ok (readReg r s))
      | .write v =>
        match writeReg r v s with
        | none => (s, .error .readOnly)
        | some s' => if s.busy then (s, .error .busy) else (s', .ok 0)
  else (s, .error .width)

/-- The platform's decode: a system transaction reaches the block only when its address lies in [base, base + 0xFF], and then at
the offset address - base (R60). -/
def route (base : Nat) (x : SysTxn) : Option Txn :=
  if base ≤ x.addr ∧ x.addr ≤ base + 0xFF then some ⟨x.access, BitVec.ofNat 8 (x.addr - base), x.size⟩ else none

/-- One more observation. -/
def record (o : Observation) (s : State) : State := { s with trace := o :: s.trace }

/-- What the agents do next. -/
def setAgenda (es : List Event) (s : State) : State := { s with agenda := es }

/-- A master's transaction served, with the response put where the outside sees it. The block does not learn the master. -/
def serveBus (m : Master) (t : Txn) (s : State) : State := record (.served m t (serve t s).2) (serve t s).1

/-- A system transaction: served if the platform's decode gives it to the block, else nothing of the block is touched (R60). -/
def serveSys (m : Master) (x : SysTxn) (s : State) : State :=
  match route Config.baseAddr x with
  | some t => serveBus m t s
  | none => s

/-- `raise CmdError(e)`, the one way a command ends with an error: no datapath register is written and the completion records
the code (spec/00_scope.md R12, spec/60_exceptions.md R171, R178). No state is saved and control goes nowhere (R184), and there is no
return from it (R185): the next acceptance clears the code. -/
def raiseError (e : CmdError) (s : State) : State := complete (errorCode e) s

/-- Reset: every component takes its reset value (spec/70_reset_and_hazards.md R200). The agents' agenda and the trace are the
model's own and stay. -/
def resetBlock (s : State) : State := { State.reset with agenda := s.agenda, trace := s.trace }

/-- The data the host sees of a response to a read, where the protocol carries data: 0 on an ERROR (R181). -/
def dataSeen : Response → Option Word
  | .ok v => some v
  | .error _ => if Config.errorCarriesData then some 0 else none

/-- The error kind the host sees, where the protocol reports it (R182). -/
def kindSeen : Response → Option BusError
  | .ok _ => none
  | .error k => if Config.reportsErrorKind then some k else none

end Sys2Proof.Machine
end

