-- ==== Sys2Proof/Machine/Composite.lean ====
section
/-! DEFINITION. The composite command (spec/44_composite_and_control.md, section 1). -/

namespace Sys2Proof.Machine

/-- GENERATE (R151): the ALG, DIGITS and DVALID checks in that order, then all three stages in one step. -/
def execGenerate (s : State) : Host.Outcome State Fault Refusal :=
  match algOf s.alg with
  | none => .next (raiseError .invalidAlgorithm s)
  | some a =>
    if digitsLegal s.digits then
      if digestComplete a s.dvalid then
        let off := truncOffset a s.digest
        let t := truncValue s.digest off
        let v := reduceMod t s.digits
        .next (complete 0 (setCode (formatCode v s.digits) s.digits (setValue v s.digits (setTrunc off t s))))
      else .next (raiseError .digestIncomplete s)
    else .next (raiseError .unsupportedDigits s)

end Sys2Proof.Machine
end

