-- ==== Sys2Proof/Machine/Control.lean ====
section
/-! DEFINITION. The control commands NOP and CLEAR (spec/44_composite_and_control.md, sections 2 and 3). -/

namespace Sys2Proof.Machine

/-- NOP (R160): only the completion. -/
def execNop (s : State) : Host.Outcome State Fault Refusal := .next (complete 0 s)

/-- CLEAR (R165): the datapath to its reset values, with CTRL and COUNTER kept. -/
def execClear (s : State) : Host.Outcome State Fault Refusal := .next (complete 0 (clearData s))

end Sys2Proof.Machine
end

