-- ==== Sys2Proof/Machine/Encoder.lean ====
section
/-! DEFINITION. The counter encoder (spec/40_counter_encoder.md). -/

namespace Sys2Proof.Machine

/-- ENCODE (R111). It cannot fail. -/
def execEncode (s : State) : Host.Outcome State Fault Refusal :=
  .next (complete 0 (setMsg (encodeCounter s.counter) s))

end Sys2Proof.Machine
end

