-- ==== Sys2Proof/Machine/Formatter.lean ====
section
/-! DEFINITION. The decimal code formatter (spec/43_code_formatter.md). -/

namespace Sys2Proof.Machine

/-- FORMAT (R141): the VV check, then VALUE in VDIGITS places. CTRL.DIGITS is not read. -/
def execFormat (s : State) : Host.Outcome State Fault Refusal :=
  if s.vv then .next (complete 0 (setCode (formatCode s.value s.vdigits) s.vdigits s))
  else .next (raiseError .noReducedValue s)

end Sys2Proof.Machine
end

