-- ==== Sys2Proof/Machine/Reducer.lean ====
section
/-! DEFINITION. The base-10 modulo reducer (spec/42_modulo_reducer.md). -/

namespace Sys2Proof.Machine

/-- REDUCE (R131): the DIGITS check, the TV check, then the remainder, with the digit count latched. -/
def execReduce (s : State) : Host.Outcome State Fault Refusal :=
  if digitsLegal s.digits then
    if s.tv then .next (complete 0 (clearCV (setValue (reduceMod s.trunc s.digits) s.digits s)))
    else .next (raiseError .noTruncatedValue s)
  else .next (raiseError .unsupportedDigits s)

end Sys2Proof.Machine
end

