-- ==== Sys2Proof/Machine/Truncation.lean ====
section
/-! DEFINITION. The truncation selector (spec/41_truncation.md). -/

namespace Sys2Proof.Machine

/-- TRUNCATE (R121): the ALG check, the DVALID check, then the window at the offset the last digest byte gives. -/
def execTruncate (s : State) : Host.Outcome State Fault Refusal :=
  match algOf s.alg with
  | none => .next (raiseError .invalidAlgorithm s)
  | some a =>
    if digestComplete a s.dvalid then
      let off := truncOffset a s.digest
      .next (complete 0 (clearCV (clearVV (setTrunc off (truncValue s.digest off) s))))
    else .next (raiseError .digestIncomplete s)

end Sys2Proof.Machine
end

