-- ==== Sys2Proof/Machine/Dispatch.lean ====
section
/-! DEFINITION. The rule of each command, run at completion (spec/70_reset_and_hazards.md R207). -/

namespace Sys2Proof.Machine

def exec (i : Instr) (s : State) : Host.Outcome State Fault Refusal :=
  match i with
  | .nop => Sys2Proof.Machine.execNop s
  | .encode => Sys2Proof.Machine.execEncode s
  | .truncate => Sys2Proof.Machine.execTruncate s
  | .reduce => Sys2Proof.Machine.execReduce s
  | .format => Sys2Proof.Machine.execFormat s
  | .generate => Sys2Proof.Machine.execGenerate s
  | .clear => Sys2Proof.Machine.execClear s

end Sys2Proof.Machine
end

