-- ==== Sys2Proof/Machine/Engine.lean ====
section
/-! DEFINITION. The turns of the three agents (spec/00_scope.md R17): the engine's completion of the pending command
(spec/70_reset_and_hazards.md R207), a bus transaction, a reset; and whose turn is next. -/

namespace Sys2Proof.Machine

/-- The rule of decode(PEND) on the current state (R207); an illegal word completes with ILLEGAL_CMD
(spec/60_exceptions.md R177). -/
def runPending (s : State) : Host.Outcome State Fault Refusal :=
  match decode s.pend with
  | .command i => exec i s
  | .illegal _ => .next (raiseError .illegalCmd s)

/-- The code of a completion is put where the outside sees it (R217). -/
def logCompletion (o : Host.Outcome State Fault Refusal) : Host.Outcome State Fault Refusal :=
  match o with
  | .next t => .next (record (.completed t.errcode) t)
  | .fault r => .fault r
  | .refused r => .refused r

/-- The engine's turn: enabled exactly when BUSY = 1 (R207); otherwise nothing happens (log entry 9). -/
def engineTurn (s : State) : Host.Outcome State Fault Refusal :=
  if s.busy then logCompletion (runPending s) else .next s

/-- The turn of one agent. -/
def turn (e : Event) (s : State) : Host.Outcome State Fault Refusal :=
  match e with
  | .bus m t => .next (serveBus m t s)
  | .sys m x => .next (serveSys m x s)
  | .engine => engineTurn s
  | .reset p => .next (record (.wasReset p) (resetBlock s))

/-- The first turn of the agenda. With an empty agenda the host is silent and only the engine can act: a pending command
completes (R212, R218), and otherwise the state stays as it is (R218). Log entry 2. -/
def nextTurn (s : State) : Host.Outcome State Fault Refusal :=
  match s.agenda with
  | [] => engineTurn s
  | e :: es => turn e (setAgenda es s)

/-- A command word accepted, with the engine's turn next (log entry 10). -/
def placeCommand (w : Word) (s : State) : State := setAgenda (.engine :: s.agenda) (accept w s)

end Sys2Proof.Machine
end

