-- ==== Sys2Proof/Machine/Step.lean ====
section
/-! DEFINITION. One step of the machine, and the placing of a command word where the next step runs it. -/

namespace Sys2Proof.Machine

/-- One turn of one agent (Machine/Engine.lean). -/
def step (s : State) : Host.Outcome State Fault Refusal := nextTurn s

/-- `s` with the command word of a table row accepted, so that the very next step completes it. HOTP-TCE fetches nothing
(spec/20_memory.md R80): a command comes by a write to CMD, and this stands for that write. Log entry 10. -/
def State.withFetchWord (s : State) (nbits w : Nat) : State := placeCommand (tableWord nbits w) s

end Sys2Proof.Machine
end

