-- ==== Sys2Proof/Machine/HostProgram.lean ====
section
/-! DEFINITION. The host-access notation of spec/30_encoding.md R97-R99: its statements and their expansion into the
block's transactions. Host statements are not stored in the block (R99); the expansion is a piece of agenda. -/

namespace Sys2Proof.Machine

/-- The statements of R97 and R98. `wrAt` and `rdAt` take an offset for a transaction that names no register. `wait` and
`run` carry how many of the polls see BUSY = 1: the loop is host control flow (R98), and the number of its turns is open
(spec/70_reset_and_hazards.md R208). Log entry 12. -/
inductive HostStmt where
  | wr (r : Reg) (v : Word)
  | rd (r : Reg)
  | wrAt (off : BitVec 8) (v : Word)
  | rdAt (off : BitVec 8)
  | cmd (i : Instr)
  | wait (polls : Nat)
  | setctr (c : BitVec 64)
  | setcfg (alg : BitVec 2) (digits : BitVec 4)
  | setdig (bytes : List Byte)
  | run (i : Instr) (polls : Nat)
  deriving DecidableEq, Repr

/-- (WRITE, off, 4, v), by one master (R97). -/
def wrEvent (m : Master) (off : BitVec 8) (v : Word) : Event := .bus m ⟨.write v, off, .word⟩

/-- (READ, off, 4), by one master (R97). -/
def rdEvent (m : Master) (off : BitVec 8) : Event := .bus m ⟨.read, off, .word⟩

/-- The polls of WAIT: those that see BUSY = 1, the engine's turn, and the poll that sees BUSY = 0 (R98). -/
def waitEvents (m : Master) (polls : Nat) : List Event :=
  List.replicate polls (rdEvent m (regOffset .status)) ++ [.engine, rdEvent m (regOffset .status)]

/-- The words of SETDIG, four bytes each, big-endian (R98). Bytes that do not fill a word are not sent; `stmtWf` asks for
none. -/
def packWords : List Byte → List Word
  | b0 :: b1 :: b2 :: b3 :: rest => be32 b0 b1 b2 b3 :: packWords rest
  | _ => []

/-- The writes of SETDIG from word k on (R98). -/
def digestEvents (m : Master) (k : Nat) : List Word → List Event
  | [] => []
  | w :: ws => wrEvent m (BitVec.ofNat 8 (0x40 + 4 * k)) w :: digestEvents m (k + 1) ws

/-- The expansion of a master's host statement (R97, R98). -/
def expand (m : Master) : HostStmt → List Event
  | .wr r v => [wrEvent m (regOffset r) v]
  | .rd r => [rdEvent m (regOffset r)]
  | .wrAt off v => [wrEvent m off v]
  | .rdAt off => [rdEvent m off]
  | .cmd i => [wrEvent m (regOffset .cmd) (encode i)]
  | .wait polls => waitEvents m polls
  | .setctr c => [wrEvent m (regOffset .counterHi) (c.extractLsb' 32 32), wrEvent m (regOffset .counterLo) (c.extractLsb' 0 32)]
  | .setcfg alg digits => [wrEvent m (regOffset .ctrl) (0#20 ++ digits ++ 0#6 ++ alg)]
  | .setdig bytes => digestEvents m 0 (packWords bytes)
  | .run i polls => wrEvent m (regOffset .cmd) (encode i) :: waitEvents m polls

/-- A master's host program is the sequence of its statements' transactions (R98, R99). -/
def expandAll (m : Master) : List HostStmt → List Event
  | [] => []
  | p :: ps => expand m p ++ expandAll m ps

/-- SETDIG takes a number of bytes that is a multiple of 4 (R98) and fits the digest buffer of 64 (R7). -/
def stmtWf : HostStmt → Bool
  | .setdig bytes => bytes.length % 4 == 0 && decide (bytes.length ≤ 64)
  | .wr _ _ => true
  | .rd _ => true
  | .wrAt _ _ => true
  | .rdAt _ => true
  | .cmd _ => true
  | .wait _ => true
  | .setctr _ => true
  | .setcfg _ _ => true
  | .run _ _ => true

end Sys2Proof.Machine
end

