-- ==== Sys2Proof/Safety.lean ====
section
/-! DEFINITION. What counts as a good state and a good run: the invariant of spec/10_state.md R48 and its neighbours, the host's
duties and the end of a run (spec/70_reset_and_hazards.md R209, R210, R217, R218). -/

namespace Sys2Proof.Safety

open Sys2Proof.Machine

/-- The invariant of the block: R48 (a bound of a field's own width needs no clause), and what R31, R32, R33, R41, R42, R44 and
spec/60_exceptions.md R170 say of every reachable state. -/
structure Inv (s : State) : Prop where
  /-- R48 (b), and R33: while VV = 1, VALUE is TRUNC reduced to VDIGITS digits. -/
  reduced : s.vv = true → 1 ≤ s.vdigits.toNat ∧ s.vdigits.toNat ≤ 10 ∧ s.value.toNat = s.trunc.toNat % 10 ^ s.vdigits.toNat
  /-- R48 (c). -/
  staged : s.vv = true → s.tv = true
  /-- R48 (d). -/
  formatted : s.cv = true → s.vv = true ∧ s.codelen = s.vdigits ∧ s.code = formatCode s.value s.codelen
  /-- R48 (f), R31. -/
  doneIdle : s.done = true → s.busy = false
  /-- R48 (g). -/
  noMessage : s.msgv = false → readReg .msgW0 s = 0 ∧ readReg .msgW1 s = 0
  /-- R48 (h). -/
  noTruncation : s.tv = false → s.offset = 0 ∧ s.trunc = 0
  /-- R32: ERR = 1 exactly when ERRCODE is not 0. -/
  errIffCode : s.err = true ↔ s.errcode ≠ 0
  /-- R32: acceptance clears the code, so a pending command shows none. -/
  busyNoError : s.busy = true → s.errcode = 0
  /-- R170: the codes 7 to 15 are never produced. -/
  codeKnown : s.errcode.toNat ≤ 6
  /-- R41: the digit counts are 0 or in 1..10. -/
  vdigitsRange : s.vdigits.toNat ≤ 10
  codelenRange : s.codelen.toNat ≤ 10
  /-- R42: digits below CODELEN, zero bytes from CODELEN on. -/
  codeBytes : ∀ j : Fin 12, (j.val < s.codelen.toNat → 0x30 ≤ s.code[j.val].toNat ∧ s.code[j.val].toNat ≤ 0x39) ∧
    (s.codelen.toNat ≤ j.val → s.code[j.val] = 0)
  /-- R44: LASTOP is PEND[3:0]. -/
  lastopPend : s.lastop = s.pend.extractLsb' 0 4
  /-- R35, R50, R165: a digest word not written since the last reset or CLEAR is 0. -/
  unwrittenZero : ∀ k : Fin 16, s.dvalid.getLsbD k.val = false → s.digest[k.val] = 0

/-- The decimal numeral that a list of code bytes spells, most significant first (spec/43_code_formatter.md R142). -/
def numeral (bytes : List Byte) : Nat := bytes.foldl (fun n b => 10 * n + (b.toNat - 0x30)) 0

/-- Acceptance of a command's word followed by its completion: what `CMD` and one turn of the engine do to the block. -/
def command (i : Instr) (s : State) : Host.Outcome State Fault Refusal := exec i (accept (encode i) s)

/-- The registers that a completion can change, STATUS apart: a host uses them only after completion (R210). -/
def isResult : Reg → Bool
  | .dvalid => true
  | .msgW0 => true
  | .msgW1 => true
  | .offset => true
  | .trunc => true
  | .value => true
  | .dinfo => true
  | .codeW0 => true
  | .codeW1 => true
  | .codeW2 => true
  | .digestW _ => true
  | .id => false
  | .ctrl => false
  | .cmd => false
  | .status => false
  | .counterHi => false
  | .counterLo => false

/-- What hosts that keep their duties remember between them: a command was issued and no STATUS read has shown BUSY = 0 since; which
halves of COUNTER were written since the last ENCODE (log entry 14). -/
structure Duty where
  awaiting : Bool
  hi : Bool
  lo : Bool
  deriving DecidableEq, Repr

/-- What the host remembers after a write that was answered OK; none when the write breaks a duty (R209; both halves of COUNTER
before ENCODE, spec/20_memory.md R72; log entry 14 says how the model reads it). -/
def dutyWrite (d : Duty) (r : Reg) (v : Word) : Option Duty :=
  if d.awaiting then none
  else match r with
    | .cmd =>
      if decode v = .command .encode then
        if d.hi = d.lo then some ⟨true, false, false⟩ else none
      else some { d with awaiting := true }
    | .counterHi => some { d with hi := true }
    | .counterLo => some { d with lo := true }
    | _ => some d

/-- What the host remembers after a read that was answered OK; none when it takes a result too early (R210; a read counts as a use,
log entry 14). -/
def dutyRead (d : Duty) (r : Reg) (v : Word) : Option Duty :=
  if r = .status then some { d with awaiting := d.awaiting && v.getLsbD 0 }
  else if d.awaiting && isResult r then none
  else some d

/-- One observation of hosts that keep their duties (R217); none when a duty was broken. A write that is answered BUSY was not made
while BUSY = 0. DESIGN CHOICE, log entry 15: a reset takes back the duty to poll and forgets which halves of COUNTER were written;
the spec does not say whether it does. DESIGN CHOICE, log entry 19: a transaction that the reset aborts is no read or write of a host. -/
def dutyStep (d : Duty) : Observation → Option Duty
  | .completed _ => some d
  | .wasReset _ => some ⟨false, false, false⟩
  | .served _ t (.ok v) =>
    match target t, t.access with
    | none, _ => some d
    | some r, .write w => dutyWrite d r w
    | some r, .read => dutyRead d r v
  | .served _ t (.error k) =>
    match t.access with
    | .read => some d
    | .write _ => if d.awaiting || k == .busy then none else some d

/-- The duties over a record, newest observation first; none when one was broken. -/
def duties : List Observation → Option Duty
  | [] => some ⟨false, false, false⟩
  | o :: os =>
    match duties os with
    | none => none
    | some d => dutyStep d o

/-- A write to CMD. -/
def isCmdWrite (t : Txn) : Bool :=
  match target t, t.access with
  | some .cmd, .write _ => true
  | _, _ => false

/-- A read of STATUS. -/
def isStatusRead (t : Txn) : Bool := t.access == .read && target t == some .status

/-- A STATUS read that showed BUSY = 0. -/
def isIdlePoll (t : Txn) : Response → Bool
  | .ok v => isStatusRead t && !v.getLsbD 0
  | .error _ => false

/-- The acceptance of a command word (R206). -/
def isAcceptance (t : Txn) : Response → Bool
  | .ok _ => isCmdWrite t
  | .error _ => false

/-- No CMD write in the record, or a STATUS read with BUSY = 0 after the last one (R209, R218): to the letter, so that a reset does not
stand for the read. A CMD write that a reset aborts is none (DESIGN CHOICE, log entry 19). -/
def polled : List Observation → Bool
  | [] => true
  | .completed _ :: os => polled os
  | .wasReset _ :: os => polled os
  | .served _ t r :: os => isIdlePoll t r || (!isCmdWrite t && polled os)

/-- What the record alone shows of the engine: it is idle, because no command was accepted, or a STATUS read with BUSY = 0 or a reset came
after the last acceptance (R200, R202, spec/20_memory.md R75). -/
def knownIdle : List Observation → Bool
  | [] => true
  | .completed _ :: os => knownIdle os
  | .wasReset _ :: _ => true
  | .served _ t r :: os => isIdlePoll t r || (!isAcceptance t r && knownIdle os)

/-- The polling invariant: where the record shows that the engine is idle, it is (R202, R209, R210, spec/20_memory.md R75). It asks
nothing of the hosts. -/
def PollInv (s : State) : Prop := knownIdle s.trace = true → s.busy = false

/-- The registers a command may change, STATUS apart (spec/30_encoding.md R93). -/
def writes : Instr → Reg → Bool
  | .nop, _ => false
  | .encode, r => r == .msgW0 || r == .msgW1
  | .truncate, r => r == .offset || r == .trunc
  | .reduce, r => r == .value || r == .dinfo
  | .format, r => r == .codeW0 || r == .codeW1 || r == .codeW2 || r == .dinfo
  | .generate, r =>
    r == .offset || r == .trunc || r == .value || r == .dinfo || r == .codeW0 || r == .codeW1 || r == .codeW2
  | .clear, r => isResult r

/-- How many transactions other than STATUS reads a master has made. It numbers a master's own statements from 0, however often its
WAITs polled (log entry 17). A transaction that a reset aborts has no number (DESIGN CHOICE, log entry 19). -/
def statements (m : Master) : List Observation → Nat
  | [] => 0
  | .completed _ :: os => statements m os
  | .wasReset _ :: os => statements m os
  | .served n t _ :: os => if n = m ∧ isStatusRead t = false then statements m os + 1 else statements m os

/-- A sequence of one master, from its first operand write to its last result read, by the numbers of its own statements
(spec/20_memory.md R78). Where a sequence begins and ends is the program's to say (log entry 16), but a STATUS read does
not end one (DESIGN CHOICE, log entry 20). -/
structure Sequence where
  master : Master
  first  : Nat
  last   : Nat
  deriving DecidableEq, Repr

/-- Between its first statement and its last, the next being number n. -/
def Sequence.isOpen (p : Sequence) (n : Nat) : Bool := decide (p.first < n ∧ n ≤ p.last)

/-- Statement n of master m belongs to the sequence. -/
def Sequence.covers (p : Sequence) (m : Master) (n : Nat) : Bool := decide (p.master = m ∧ p.first ≤ n ∧ n ≤ p.last)

/-- A transaction that is part of some use of the block: a write, or a read of a result. -/
def inSequence (t : Txn) : Bool :=
  match t.access with
  | .write _ => true
  | .read => (target t).any isResult

/-- The duty of several masters (R217, spec/20_memory.md R78): every write and every result read is in a sequence of its master, and no
transaction of another master falls inside an open sequence. A transaction that a reset aborts falls nowhere (DESIGN CHOICE, log
entry 19). DESIGN CHOICE, log entry 20: a STATUS read is not the last result read of a sequence, so a sequence is over with its last
statement and not with the poll after it; the spec does not say whether one is. -/
def exclusiveUse (seqs : List Sequence) : List Observation → Bool
  | [] => true
  | .completed _ :: os => exclusiveUse seqs os
  | .wasReset _ :: os => exclusiveUse seqs os
  | .served m t _ :: os =>
    exclusiveUse seqs os && seqs.all (fun p => p.master == m || !p.isOpen (statements p.master os)) &&
      (!inSequence t || seqs.any fun p => p.covers m (statements m os))

/-- The part of a record from its first CMD write on (R218). A CMD write that a reset aborts is none (DESIGN CHOICE, log entry 19). -/
def fromFirstCmd : List Observation → List Observation
  | [] => []
  | o :: os =>
    match fromFirstCmd os, o with
    | [], .served _ t _ => if isCmdWrite t then [o] else []
    | [], _ => []
    | later, _ => o :: later

/-- The codes of the completions, oldest first (R218). -/
def completions : List Observation → List (BitVec 4)
  | [] => []
  | .completed e :: os => completions os ++ [e]
  | _ :: os => completions os

/-- An ERROR response, by the statement of the master that got it and the kind the model recorded (log entry 17). -/
structure ErrorAt where
  master    : Master
  statement : Nat
  kind      : BusError
  deriving DecidableEq, Repr

/-- The ERROR responses of a record, oldest first (R218). -/
def busErrors : List Observation → List ErrorAt
  | [] => []
  | .served m _ (.error k) :: os => busErrors os ++ [⟨m, statements m os, k⟩]
  | _ :: os => busErrors os

/-- What a program says of its own run (R218): the record when it began, what the agents do after its last statement, the code of
every completion from its first CMD write on, every statement that may get an ERROR, and the masters' sequences. -/
structure Expected where
  before    : List Observation
  after     : List Event
  codes     : List (BitVec 4)
  errors    : List ErrorAt
  sequences : List Sequence
  deriving DecidableEq, Repr

/-- A run that ended and is well formed (R218): the record grew by `run` while the program's statements were executed, a STATUS read with
BUSY = 0 followed the last CMD write, and no command is pending; the completions had the expected codes, no statement got an ERROR
that was not expected, and the duties of R217 were kept. DESIGN CHOICE, log entry 18: the duties start afresh with the run, whatever
the record before it left to poll or to write; the spec does not say whether they carry over. -/
structure WellFormedEnd (e : Expected) (run : List Observation) (s : State) : Prop where
  recorded : s.trace = run ++ e.before
  finished : s.agenda = e.after
  polledLast : polled run = true
  idle : s.busy = false
  codesExpected : completions (fromFirstCmd run) = e.codes
  errorsExpected : ∀ x ∈ busErrors run, x ∈ e.errors
  dutiesKept : (duties run).isSome = true
  exclusive : exclusiveUse e.sequences run = true

end Sys2Proof.Safety
end

