-- ==== Sys2Proof/Certificates/Slice0/Obligations.lean ====
section
/-! DEFINITION. The statements for the provers. Each docstring says which rule or sentence of spec/ it formalises. A rule that
the spec marks as derived is an inference of the spec's own: a statement that rests on one says so. -/

open Sys2Proof Sys2Proof.Machine Sys2Proof.Safety

/-- 10_state.md R50: the reset value of every component, and what the registers then read. The two lists are the model's own
fields (log entries 1 and 3), about which this says nothing. -/
def Obligations.ResetValuesAreAsSpecified : Prop :=
  (State.reset.alg = 0 ∧ State.reset.digits = 6 ∧ State.reset.counter = 0 ∧ (∀ i : Fin 8, State.reset.msg[i] = 0) ∧
    State.reset.msgv = false ∧ (∀ k : Fin 16, State.reset.digest[k] = 0) ∧ State.reset.dvalid = 0 ∧ State.reset.offset = 0 ∧
    State.reset.tv = false ∧ State.reset.trunc = 0 ∧ State.reset.value = 0 ∧ State.reset.vv = false ∧
    State.reset.vdigits = 0 ∧ (∀ j : Fin 12, State.reset.code[j] = 0) ∧ State.reset.codelen = 0 ∧ State.reset.cv = false ∧
    State.reset.busy = false ∧ State.reset.done = false ∧ State.reset.err = false ∧ State.reset.errcode = 0 ∧
    State.reset.lastop = 0 ∧ State.reset.pend = 0) ∧
  ∀ r : Reg, readReg r State.reset = if r = .ctrl then 0x00000600#32 else if r = .id then 0x484F5450#32 else 0#32

/-- 70_reset_and_hazards.md R200 and R203: a reset, whatever the state, pending command and transaction in progress, leaves every
component at its reset value. The agenda goes on and the trace notes the reset: the model's own fields (log entries 1, 3). -/
def Obligations.ResetEventRestoresEveryComponent : Prop :=
  ∀ (s : State) (p : Option Txn) (rest : List Event), s.agenda = .reset p :: rest →
    step s = .next { State.reset with agenda := rest, trace := .wasReset p :: s.trace }

/-- The invariant of Safety.lean (10_state.md R48, a derived rule, and the sentences of R31-R33, R41, R42, R44 beside it)
holds at reset. -/
def Obligations.InvariantHoldsAtReset : Prop := Inv State.reset

/-- Every step keeps the invariant, from every state that has it, whoever's turn it is. -/
def Obligations.EveryStepKeepsTheInvariant : Prop :=
  ∀ s t : State, Inv s → step s = .next t → Inv t

/-- 30_encoding.md R94: the opcode map, row by row. -/
def Obligations.CommandWordsDecodeAsMapped : Prop :=
  decode 0x00000000#32 = .command .nop ∧ decode 0x00000001#32 = .command .encode ∧
  decode 0x00000002#32 = .command .truncate ∧ decode 0x00000003#32 = .command .reduce ∧
  decode 0x00000004#32 = .command .format ∧ decode 0x00000005#32 = .command .generate ∧
  decode 0x00000006#32 = .command .clear ∧
  ∀ op : Fin 16, 7 ≤ op.val → ∃ why, decode (BitVec.ofNat 32 op.val) = .illegal why

/-- 30_encoding.md R92: the decode table on all 2^32 words, and what an ILLEGAL word does at completion. -/
def Obligations.EveryWordDecodesAsTabled : Prop :=
  (∀ w : Word,
    (w.toNat / 2 ^ 4 ≠ 0 → ∃ why, decode w = .illegal why) ∧
    (w.toNat / 2 ^ 4 = 0 →
      (w.toNat % 2 ^ 4 = 0 → decode w = .command .nop) ∧ (w.toNat % 2 ^ 4 = 1 → decode w = .command .encode) ∧
      (w.toNat % 2 ^ 4 = 2 → decode w = .command .truncate) ∧ (w.toNat % 2 ^ 4 = 3 → decode w = .command .reduce) ∧
      (w.toNat % 2 ^ 4 = 4 → decode w = .command .format) ∧ (w.toNat % 2 ^ 4 = 5 → decode w = .command .generate) ∧
      (w.toNat % 2 ^ 4 = 6 → decode w = .command .clear) ∧
      (7 ≤ w.toNat % 2 ^ 4 → ∃ why, decode w = .illegal why))) ∧
  ∀ (s : State) (why : Illegal) (rest : List Event), s.busy = true → decode s.pend = .illegal why →
    s.agenda = .engine :: rest →
    step s = .next { s with
      agenda := rest, busy := false, done := true, err := true, errcode := 1, trace := .completed 1 :: s.trace }

/-- Decoding the word of a well-formed command gives the command, and no other word decodes to it (30_encoding.md, sections 1
and 2). -/
def Obligations.DecodeAndEncodeAgree : Prop :=
  (∀ i : Instr, i.wf = true → decode (encode i) = .command i) ∧
  ∀ (w : Word) (i : Instr), decode w = .command i → w = encode i

/-- 70_reset_and_hazards.md, section 3: in the engine's turn the pending word's command runs on the current state. The engine's
turn is the first of the agenda, or the agenda is empty (log entry 2). Around the command the step takes the turn off the agenda
and notes the code in the trace (log entry 3). -/
def Obligations.StepRunsTheDecodedCommand : Prop :=
  ∀ (s : State) (i : Instr) (rest : List Event), s.busy = true → decode s.pend = .command i → i.wf = true →
    (s.agenda = .engine :: rest ∨ (s.agenda = [] ∧ rest = [])) →
    step s = match exec i { s with agenda := rest } with
      | .next t => .next { t with trace := .completed t.errcode :: t.trace }
      | .fault f => .fault f
      | .refused r => .refused r

/-- 60_exceptions.md, section 1, in the engine's turn wherever it falls: an illegal pending word completes with code 1 and changes nothing
else of the block. That the empty agenda is the engine's turn is the model's reading (DEDUCED, log entry 2). -/
def Obligations.StepCompletesAnIllegalWord : Prop :=
  ∀ (s : State) (why : Illegal) (rest : List Event), s.busy = true → decode s.pend = .illegal why →
    (s.agenda = .engine :: rest ∨ (s.agenda = [] ∧ rest = [])) →
    step s = .next { s with
      agenda := rest, busy := false, done := true, err := true, errcode := 1, trace := .completed 1 :: s.trace }

/-- 60_exceptions.md R177: an illegal word is accepted like any other, with an OK response, and completes with code 1. -/
def Obligations.IllegalWordIsAcceptedAndRecorded : Prop :=
  ∀ (s : State) (w : Word) (why : Illegal) (m : Master) (rest : List Event), decode w = .illegal why → s.busy = false →
    s.agenda = .bus m ⟨.write w, 0x08, .word⟩ :: .engine :: rest →
    ∃ u t : State, step s = .next u ∧ step u = .next t ∧
      u = { s with
        agenda := .engine :: rest, pend := w, lastop := w.extractLsb' 0 4, busy := true, done := false, err := false
        errcode := 0, trace := .served m ⟨.write w, 0x08, .word⟩ (.ok 0) :: s.trace } ∧
      t = { u with
        agenda := rest, busy := false, done := true, err := true, errcode := 1, trace := .completed 1 :: u.trace }

/-- 70_reset_and_hazards.md R206: acceptance of any word. -/
def Obligations.AcceptanceSetsThePendingCommand : Prop :=
  ∀ (s : State) (w : Word) (m : Master) (rest : List Event), s.busy = false → s.agenda = .bus m ⟨.write w, 0x08, .word⟩ :: rest →
    step s = .next { s with
      agenda := rest, pend := w, lastop := w.extractLsb' 0 4, busy := true, done := false, err := false, errcode := 0
      trace := .served m ⟨.write w, 0x08, .word⟩ (.ok 0) :: s.trace }

/-- 70_reset_and_hazards.md, section 3: every command, on every state, ends in complete(e) with a code of the error table; no
command changes CTRL, COUNTER, PEND, LASTOP, or the model's own fields. -/
def Obligations.EveryCommandCompletes : Prop :=
  ∀ (i : Instr) (s : State), ∃ t : State, exec i s = .next t ∧
    t.busy = false ∧ t.done = true ∧ (t.err = true ↔ t.errcode ≠ 0) ∧ t.errcode.toNat ≤ 6 ∧
    t.alg = s.alg ∧ t.digits = s.digits ∧ t.counter = s.counter ∧ t.pend = s.pend ∧ t.lastop = s.lastop ∧
    t.agenda = s.agenda ∧ t.trace = s.trace

/-- Nothing stops the machine, for any number of steps from any state. That there is no fault and no refusal is the model's reading of
60_exceptions.md, section 3 (DEDUCED, log entry 8), and so is what it does on an empty agenda (DEDUCED, log entry 2). -/
def Obligations.NoRunEverStops : Prop :=
  ∀ (n : Nat) (s : State), ∃ t : State, Host.Core.run core n s = .next t

/-- 40_counter_encoder.md R111: ENCODE. It completes in every state. -/
def Obligations.EncodeWritesTheMessage : Prop :=
  encode .encode = 0x00000001#32 ∧
  ∀ s : State, ∃ m : Vector Byte 8,
    (∀ i : Fin 8, m[i] = s.counter.extractLsb' (56 - 8 * i.val) 8) ∧
    exec .encode s = .next { s with msg := m, msgv := true, busy := false, done := true, err := false, errcode := 0 }

/-- 40_counter_encoder.md, rule on the message words (a derived rule): after ENCODE, MSG_W0 reads what COUNTER_HI read and
MSG_W1 what COUNTER_LO read. -/
def Obligations.MessageWordsAreTheCounterWords : Prop :=
  ∀ s t : State, exec .encode s = .next t →
    readReg .msgW0 t = readReg .counterHi s ∧ readReg .msgW1 t = readReg .counterLo s

/-- 41_truncation.md R121: TRUNCATE, its two errors in order and its result. It completes with its own effect when ALG is not 3
and every digest word ALG needs is written. -/
def Obligations.TruncateSelectsTheWindow : Prop :=
  encode .truncate = 0x00000002#32 ∧
  ∀ s : State,
    (s.alg = 3 → exec .truncate s = .next { s with busy := false, done := true, err := true, errcode := 2 }) ∧
    ∀ l : Nat, (s.alg = 0 ∧ l = 20) ∨ (s.alg = 1 ∧ l = 32) ∨ (s.alg = 2 ∧ l = 64) →
      ((∃ k, k < l / 4 ∧ s.dvalid.getLsbD k = false) →
        exec .truncate s = .next { s with busy := false, done := true, err := true, errcode := 4 }) ∧
      ((∀ k, k < l / 4 → s.dvalid.getLsbD k = true) →
        ∃ (off : BitVec 4) (t : BitVec 31),
          off.toNat = (digestByte s.digest (Fin.ofNat 64 (l - 1))).toNat % 2 ^ 4 ∧
          t.toNat = ((digestByte s.digest (Fin.ofNat 64 off.toNat)).toNat * 2 ^ 24 +
            (digestByte s.digest (Fin.ofNat 64 (off.toNat + 1))).toNat * 2 ^ 16 +
            (digestByte s.digest (Fin.ofNat 64 (off.toNat + 2))).toNat * 2 ^ 8 +
            (digestByte s.digest (Fin.ofNat 64 (off.toNat + 3))).toNat) % 2 ^ 31 ∧
          exec .truncate s = .next { s with
            offset := off, trunc := t, tv := true, vv := false, cv := false
            busy := false, done := true, err := false, errcode := 0 })

/-- 20_memory.md, section 5: the three byte streams are packed big-endian: byte j is in word j div 4, at bits
[31 - 8*(j mod 4) : 24 - 8*(j mod 4)], for the digest, the message and the code. -/
def Obligations.ByteStreamsArePackedBigEndian : Prop :=
  ∀ s : State,
    (∀ i : Fin 64, (digestByte s.digest i).toNat = s.digest[i.val / 4].toNat / 2 ^ (24 - 8 * (i.val % 4)) % 2 ^ 8) ∧
    (∀ i : Fin 8, s.msg[i].toNat =
      (readReg (if i.val / 4 = 0 then .msgW0 else .msgW1) s).toNat / 2 ^ (24 - 8 * (i.val % 4)) % 2 ^ 8) ∧
    (∀ j : Fin 12, s.code[j].toNat =
      (readReg (if j.val / 4 = 0 then .codeW0 else if j.val / 4 = 1 then .codeW1 else .codeW2) s).toNat
        / 2 ^ (24 - 8 * (j.val % 4)) % 2 ^ 8)

/-- 41_truncation.md, corner cases (a derived rule): under an algorithm, TRUNCATE and GENERATE neither read the digest words
beyond the algorithm's nor ask whether they were written. -/
def Obligations.WordsBeyondTheDigestAreIgnored : Prop :=
  ∀ (s : State) (l : Nat) (d : Vector Word 16) (v : BitVec 16) (i : Instr), i = .truncate ∨ i = .generate →
    (s.alg = 0 ∧ l = 20) ∨ (s.alg = 1 ∧ l = 32) ∨ (s.alg = 2 ∧ l = 64) →
    (∀ k : Fin 16, k.val < l / 4 → d[k.val] = s.digest[k.val] ∧ v.getLsbD k.val = s.dvalid.getLsbD k.val) →
    ∃ t : State, exec i s = .next t ∧ exec i { s with digest := d, dvalid := v } = .next { t with digest := d, dvalid := v }

/-- 41_truncation.md, corner cases (derived rules): only the low nibble of the last digest byte matters to TRUNCATE: two
buffers that differ in no other byte and agree in that nibble give the same OFFSET and TRUNC. -/
def Obligations.OnlyTheLowNibbleOfTheLastByteMatters : Prop :=
  ∀ (s : State) (l : Nat) (d : Vector Word 16), (s.alg = 0 ∧ l = 20) ∨ (s.alg = 1 ∧ l = 32) ∨ (s.alg = 2 ∧ l = 64) →
    (∀ i : Fin 64, i.val ≠ l - 1 → digestByte d i = digestByte s.digest i) →
    (digestByte d (Fin.ofNat 64 (l - 1))).toNat % 16 = (digestByte s.digest (Fin.ofNat 64 (l - 1))).toNat % 16 →
    ∃ t : State, exec .truncate s = .next t ∧ exec .truncate { s with digest := d } = .next { t with digest := d }

/-- 41_truncation.md, corner cases (a derived rule): TRUNC has its largest value exactly when the window is 7F FF FF FF or
FF FF FF FF. -/
def Obligations.LargestTruncatedValue : Prop :=
  ∀ (s t : State), exec .truncate s = .next t → t.errcode = 0 →
    (t.trunc.toNat = 2147483647 ↔
      ((digestByte s.digest (Fin.ofNat 64 t.offset.toNat)).toNat = 0x7F ∨
        (digestByte s.digest (Fin.ofNat 64 t.offset.toNat)).toNat = 0xFF) ∧
      ∀ j : Fin 3, (digestByte s.digest (Fin.ofNat 64 (t.offset.toNat + 1 + j.val))).toNat = 0xFF)

/-- 42_modulo_reducer.md R131: REDUCE, its two errors in order and its result. It completes with its own effect when DIGITS is in
1..10 and TV = 1. -/
def Obligations.ReduceTakesTheRemainder : Prop :=
  encode .reduce = 0x00000003#32 ∧
  ∀ s : State,
    ((s.digits.toNat < 1 ∨ 10 < s.digits.toNat) →
      exec .reduce s = .next { s with busy := false, done := true, err := true, errcode := 3 }) ∧
    (1 ≤ s.digits.toNat ∧ s.digits.toNat ≤ 10 →
      (s.tv = false → exec .reduce s = .next { s with busy := false, done := true, err := true, errcode := 5 }) ∧
      (s.tv = true →
        ∃ v : BitVec 31, v.toNat = s.trunc.toNat % 10 ^ s.digits.toNat ∧
          exec .reduce s = .next { s with
            value := v, vdigits := s.digits, vv := true, cv := false
            busy := false, done := true, err := false, errcode := 0 }))

/-- 42_modulo_reducer.md, arithmetic law (a derived rule): VALUE is the one remainder below 10^n, it is at most TRUNC, and for
ten digits it is TRUNC. -/
def Obligations.ReducedValueIsTheUniqueRemainder : Prop :=
  ∀ s t : State, exec .reduce s = .next t → t.errcode = 0 →
    t.value.toNat < 10 ^ s.digits.toNat ∧
    (∀ q r : Nat, s.trunc.toNat = 10 ^ s.digits.toNat * q + r → r < 10 ^ s.digits.toNat → t.value.toNat = r) ∧
    t.value.toNat ≤ s.trunc.toNat ∧ (s.digits = 10 → t.value = s.trunc)

/-- 43_code_formatter.md R141: FORMAT, its error and its result. It completes with its own effect when VV = 1. The rule says that
VDIGITS is then in 1..10, which is the premise here; `EveryStepKeepsTheInvariant` says that it stays so. -/
def Obligations.FormatWritesTheDecimalCode : Prop :=
  encode .format = 0x00000004#32 ∧
  ∀ s : State,
    (s.vv = false → exec .format s = .next { s with busy := false, done := true, err := true, errcode := 6 }) ∧
    (s.vv = true → 1 ≤ s.vdigits.toNat → s.vdigits.toNat ≤ 10 →
      ∃ cs : Vector Byte 12,
        (∀ j : Fin 12,
          (j.val < s.vdigits.toNat →
            cs[j].toNat = 0x30 + s.value.toNat / 10 ^ (s.vdigits.toNat - 1 - j.val) % 10) ∧
          (s.vdigits.toNat ≤ j.val → cs[j] = 0x00)) ∧
        exec .format s = .next { s with
          code := cs, codelen := s.vdigits, cv := true, busy := false, done := true, err := false, errcode := 0 })

/-- 43_code_formatter.md, section on exactness, with 10_state.md, section 9 (derived rules): in a state of the invariant that holds a reduced
value, VDIGITS is in 1..10, FORMAT succeeds and changes CODE, CODELEN, CV and the completion fields only, and the code it writes spells, as
a decimal numeral of VDIGITS places, TRUNC modulo 10^VDIGITS. The premise is the invariant, which rules out every other VDIGITS. -/
def Obligations.FormatSpellsTheReducedTruncation : Prop :=
  ∀ s : State, Inv s → s.vv = true →
    1 ≤ s.vdigits.toNat ∧ s.vdigits.toNat ≤ 10 ∧
    ∃ t : State, exec .format s = .next t ∧
      t = { s with
        code := t.code, codelen := s.vdigits, cv := true, busy := false, done := true, err := false, errcode := 0 } ∧
      numeral (t.code.toList.take s.vdigits.toNat) = s.trunc.toNat % 10 ^ s.vdigits.toNat

/-- 43_code_formatter.md, exactness (a derived rule): the first CODELEN bytes are decimal digit characters, and as a numeral they
give back VALUE. The premise is the invariant's clause on a reduced VALUE. -/
def Obligations.CodeSpellsTheValue : Prop :=
  ∀ s : State, s.vv = true → 1 ≤ s.vdigits.toNat → s.vdigits.toNat ≤ 10 → s.value.toNat < 10 ^ s.vdigits.toNat →
    ∃ t : State, exec .format s = .next t ∧ t.codelen.toNat = s.vdigits.toNat ∧
      numeral (t.code.toList.take t.codelen.toNat) = s.value.toNat ∧
      ∀ j : Fin 12, j.val < t.codelen.toNat → 0x30 ≤ t.code[j].toNat ∧ t.code[j].toNat ≤ 0x39

/-- 44_composite_and_control.md R151: GENERATE, its three errors in order and its result. It completes with its own effect when
ALG is not 3, DIGITS is in 1..10 and every digest word ALG needs is written. -/
def Obligations.GenerateRunsAllStages : Prop :=
  encode .generate = 0x00000005#32 ∧
  ∀ s : State,
    (s.alg = 3 → exec .generate s = .next { s with busy := false, done := true, err := true, errcode := 2 }) ∧
    ∀ l : Nat, (s.alg = 0 ∧ l = 20) ∨ (s.alg = 1 ∧ l = 32) ∨ (s.alg = 2 ∧ l = 64) →
      ((s.digits.toNat < 1 ∨ 10 < s.digits.toNat) →
        exec .generate s = .next { s with busy := false, done := true, err := true, errcode := 3 }) ∧
      (1 ≤ s.digits.toNat ∧ s.digits.toNat ≤ 10 →
        ((∃ k, k < l / 4 ∧ s.dvalid.getLsbD k = false) →
          exec .generate s = .next { s with busy := false, done := true, err := true, errcode := 4 }) ∧
        ((∀ k, k < l / 4 → s.dvalid.getLsbD k = true) →
          ∃ (off : BitVec 4) (t v : BitVec 31) (cs : Vector Byte 12),
            off.toNat = (digestByte s.digest (Fin.ofNat 64 (l - 1))).toNat % 2 ^ 4 ∧
            t.toNat = ((digestByte s.digest (Fin.ofNat 64 off.toNat)).toNat * 2 ^ 24 +
              (digestByte s.digest (Fin.ofNat 64 (off.toNat + 1))).toNat * 2 ^ 16 +
              (digestByte s.digest (Fin.ofNat 64 (off.toNat + 2))).toNat * 2 ^ 8 +
              (digestByte s.digest (Fin.ofNat 64 (off.toNat + 3))).toNat) % 2 ^ 31 ∧
            v.toNat = t.toNat % 10 ^ s.digits.toNat ∧
            (∀ j : Fin 12,
              (j.val < s.digits.toNat →
                cs[j].toNat = 0x30 + v.toNat / 10 ^ (s.digits.toNat - 1 - j.val) % 10) ∧
              (s.digits.toNat ≤ j.val → cs[j] = 0x00)) ∧
            exec .generate s = .next { s with
              offset := off, trunc := t, tv := true, value := v, vdigits := s.digits, vv := true
              code := cs, codelen := s.digits, cv := true
              busy := false, done := true, err := false, errcode := 0 }))

/-- 44_composite_and_control.md, equivalence with the staged commands (a derived rule): when TRUNCATE, REDUCE and FORMAT, each
accepted and completed, all succeed, GENERATE from the same state leaves the same state but for LASTOP and PEND; and where ALG is
legal, DIGITS illegal and some digest word that ALG needs is unwritten, GENERATE reports 3 and TRUNCATE 4. -/
def Obligations.GenerateEqualsTheStagedCommands : Prop :=
  (∀ s s1 s2 s3 : State, s.busy = false →
    command .truncate s = .next s1 → s1.errcode = 0 → command .reduce s1 = .next s2 → s2.errcode = 0 →
    command .format s2 = .next s3 → s3.errcode = 0 →
    s3.lastop = 4 ∧ s3.pend = 4 ∧ command .generate s = .next { s3 with lastop := 5, pend := 5 }) ∧
  ∀ (s : State) (l : Nat), (s.alg = 0 ∧ l = 20) ∨ (s.alg = 1 ∧ l = 32) ∨ (s.alg = 2 ∧ l = 64) →
    (s.digits.toNat < 1 ∨ 10 < s.digits.toNat) → (∃ k, k < l / 4 ∧ s.dvalid.getLsbD k = false) →
    ∃ g t : State, command .generate s = .next g ∧ g.errcode = 3 ∧ command .truncate s = .next t ∧ t.errcode = 4

/-- 44_composite_and_control.md R160: NOP. It completes in every state, and LASTOP is 0 from its acceptance on. -/
def Obligations.NopOnlyCompletes : Prop :=
  encode .nop = 0x00000000#32 ∧
  ∀ s : State,
    exec .nop s = .next { s with busy := false, done := true, err := false, errcode := 0 } ∧
    ∃ t : State, command .nop s = .next t ∧ t.lastop = 0

/-- 44_composite_and_control.md R165: CLEAR. It completes in every state, keeps CTRL and COUNTER, and every register but CTRL,
COUNTER_HI, COUNTER_LO and STATUS reads as after reset. -/
def Obligations.ClearZeroesTheDatapath : Prop :=
  encode .clear = 0x00000006#32 ∧
  ∀ s : State, ∃ (m : Vector Byte 8) (d : Vector Word 16) (cs : Vector Byte 12),
    (∀ i : Fin 8, m[i] = 0) ∧ (∀ k : Fin 16, d[k] = 0) ∧ (∀ j : Fin 12, cs[j] = 0) ∧
    exec .clear s = .next { s with
      msg := m, msgv := false, digest := d, dvalid := 0, offset := 0, trunc := 0, tv := false
      value := 0, vdigits := 0, vv := false, code := cs, codelen := 0, cv := false
      busy := false, done := true, err := false, errcode := 0 } ∧
    ∃ t : State, command .clear s = .next t ∧ t.done = true ∧ t.lastop = 6 ∧
      ∀ r : Reg, r ≠ .ctrl → r ≠ .counterHi → r ≠ .counterLo → r ≠ .status → readReg r t = readReg r State.reset

/-- 44_composite_and_control.md, section 3: CLEAR removes digest-derived values: two states that agree on CTRL, COUNTER, PEND, LASTOP
and the model's own fields are one state after it. -/
def Obligations.ClearForgetsTheDigest : Prop :=
  ∀ s s' : State, s.alg = s'.alg → s.digits = s'.digits → s.counter = s'.counter → s.pend = s'.pend → s.lastop = s'.lastop →
    s.agenda = s'.agenda → s.trace = s'.trace → ∃ t : State, exec .clear s = .next t ∧ exec .clear s' = .next t

/-- 60_exceptions.md, the all-or-nothing rule's first half: a command that completes with a nonzero code changes BUSY, DONE, ERR and
ERRCODE and nothing else. -/
def Obligations.FailedCommandChangesOnlyStatus : Prop :=
  ∀ (i : Instr) (s t : State), exec i s = .next t → t.errcode ≠ 0 →
    t = { s with busy := false, done := true, err := true, errcode := t.errcode }

/-- 60_exceptions.md, the determinism rule (a derived rule): a failed command issued again, whatever has happened since, fails again with
the same code if CTRL, the digest words' valid bits and the stage flags TV and VV are as the failure left them. The rule keeps the digest
words and the other valid flags too; no code depends on them. -/
def Obligations.FailedCommandFailsAgain : Prop :=
  ∀ (i : Instr) (s t u : State), command i s = .next t → t.errcode ≠ 0 →
    u.alg = t.alg → u.digits = t.digits → u.dvalid = t.dvalid → u.tv = t.tv → u.vv = t.vv →
    ∃ v : State, command i u = .next v ∧ v.errcode = t.errcode

/-- 20_memory.md R63: a transaction of size 1 or 2, or at an offset that is not a multiple of 4, is a WIDTH error and touches
nothing. -/
def Obligations.OnlyAlignedWordsAreLegal : Prop :=
  ∀ (s : State) (t : Txn) (m : Master) (rest : List Event), s.agenda = .bus m t :: rest →
    (t.size = .byte ∨ t.size = .half ∨ t.off.toNat % 4 ≠ 0) →
    step s = .next { s with agenda := rest, trace := .served m t (.error .width) :: s.trace }

/-- 20_memory.md R64: an aligned word access at 0x80..0xFC is an UNMAPPED error, read or write. -/
def Obligations.UpperHalfIsUnmapped : Prop :=
  ∀ (s : State) (t : Txn) (m : Master) (rest : List Event), s.agenda = .bus m t :: rest → t.size = .word → t.off.toNat % 4 = 0 →
    0x80 ≤ t.off.toNat →
    step s = .next { s with agenda := rest, trace := .served m t (.error .unmapped) :: s.trace }

/-- 20_memory.md R66: a write to one of the twelve read-only registers, by offset, is a READONLY error, whatever BUSY is. -/
def Obligations.ReadOnlyRegistersRefuseWrites : Prop :=
  ∀ (s : State) (off : BitVec 8) (v : Word) (m : Master) (rest : List Event), s.agenda = .bus m ⟨.write v, off, .word⟩ :: rest →
    off ∈ [0x00#8, 0x0C#8, 0x10#8, 0x1C#8, 0x20#8, 0x24#8, 0x28#8, 0x2C#8, 0x30#8, 0x34#8, 0x38#8, 0x3C#8] →
    step s = .next { s with agenda := rest, trace := .served m ⟨.write v, off, .word⟩ (.error .readOnly) :: s.trace }

/-- 20_memory.md R67: a write to CTRL, CMD, COUNTER_HI, COUNTER_LO or a digest word while BUSY = 1 is a BUSY error and is lost. -/
def Obligations.WritesWhileBusyAreLost : Prop :=
  ∀ (s : State) (off : BitVec 8) (v : Word) (m : Master) (rest : List Event), s.agenda = .bus m ⟨.write v, off, .word⟩ :: rest →
    s.busy = true →
    (off ∈ [0x04#8, 0x08#8, 0x14#8, 0x18#8] ∨ (off.toNat % 4 = 0 ∧ 0x40 ≤ off.toNat ∧ off.toNat ≤ 0x7C)) →
    step s = .next { s with agenda := rest, trace := .served m ⟨.write v, off, .word⟩ (.error .busy) :: s.trace }

/-- 60_exceptions.md R181 and R182: the kind of the error is the first cause that applies, in the order WIDTH, UNMAPPED, READONLY,
BUSY; the response is ERROR exactly when a cause applies; an ERROR leaves the whole block as it was; its read data is 0 where the
protocol carries data, whatever the kind, and the kind is seen only where the protocol reports it. -/
def Obligations.BusErrorsAreClassifiedAndHarmless : Prop :=
  (∀ (s : State) (t : Txn) (m : Master) (rest : List Event), s.agenda = .bus m t :: rest →
    ∃ (u : State) (r : Response), step s = .next u ∧ u.agenda = rest ∧ u.trace = .served m t r :: s.trace ∧
      (r = .error .width ↔ (t.size ≠ .word ∨ t.off.toNat % 4 ≠ 0)) ∧
      (r = .error .unmapped ↔ (t.size = .word ∧ t.off.toNat % 4 = 0 ∧ 0x80 ≤ t.off.toNat)) ∧
      (r = .error .readOnly ↔ (t.size = .word ∧ (∃ v, t.access = .write v) ∧
        t.off ∈ [0x00#8, 0x0C#8, 0x10#8, 0x1C#8, 0x20#8, 0x24#8, 0x28#8, 0x2C#8, 0x30#8, 0x34#8, 0x38#8, 0x3C#8])) ∧
      (r = .error .busy ↔ (t.size = .word ∧ s.busy = true ∧ (∃ v, t.access = .write v) ∧
        (t.off ∈ [0x04#8, 0x08#8, 0x14#8, 0x18#8] ∨
          (t.off.toNat % 4 = 0 ∧ 0x40 ≤ t.off.toNat ∧ t.off.toNat ≤ 0x7C)))) ∧
      ∀ k : BusError, r = .error k → u = { s with agenda := rest, trace := .served m t (.error k) :: s.trace }) ∧
  ∀ k : BusError, (dataSeen (.error k) = if Config.errorCarriesData then some 0 else none) ∧
    kindSeen (.error k) = if Config.reportsErrorKind then some k else none

/-- 20_memory.md R65: a legal read of a mapped offset answers the register's value and changes nothing, whatever BUSY is; the
values are laid out as 10_state.md R22-R43 say, with reserved bits 0. -/
def Obligations.ReadsAnswerAndChangeNothing : Prop :=
  (∀ (s : State) (r : Reg) (m : Master) (rest : List Event), s.agenda = .bus m ⟨.read, regOffset r, .word⟩ :: rest →
    step s = .next { s with
      agenda := rest, trace := .served m ⟨.read, regOffset r, .word⟩ (.ok (readReg r s)) :: s.trace }) ∧
  (∀ off : BitVec 8, off.toNat % 4 = 0 → off.toNat < 0x80 → ∃ r : Reg, regOffset r = off) ∧
  (regOffset .id = 0x00 ∧ regOffset .ctrl = 0x04 ∧ regOffset .cmd = 0x08 ∧ regOffset .status = 0x0C ∧
    regOffset .dvalid = 0x10 ∧ regOffset .counterHi = 0x14 ∧ regOffset .counterLo = 0x18 ∧ regOffset .msgW0 = 0x1C ∧
    regOffset .msgW1 = 0x20 ∧ regOffset .offset = 0x24 ∧ regOffset .trunc = 0x28 ∧ regOffset .value = 0x2C ∧
    regOffset .dinfo = 0x30 ∧ regOffset .codeW0 = 0x34 ∧ regOffset .codeW1 = 0x38 ∧ regOffset .codeW2 = 0x3C ∧
    ∀ k : Fin 16, (regOffset (.digestW k)).toNat = 0x40 + 4 * k.val) ∧
  ∀ s : State,
    readReg .id s = 0x484F5450#32 ∧ readReg .cmd s = 0#32 ∧
    (readReg .ctrl s).toNat = s.alg.toNat + 2 ^ 8 * s.digits.toNat ∧
    (readReg .status s).toNat = s.busy.toNat + 2 * s.done.toNat + 2 ^ 2 * s.err.toNat + 2 ^ 4 * s.errcode.toNat +
      2 ^ 8 * s.msgv.toNat + 2 ^ 9 * s.tv.toNat + 2 ^ 10 * s.vv.toNat + 2 ^ 11 * s.cv.toNat + 2 ^ 16 * s.lastop.toNat ∧
    (readReg .dvalid s).toNat = s.dvalid.toNat ∧
    (readReg .counterHi s).toNat = s.counter.toNat / 2 ^ 32 ∧ (readReg .counterLo s).toNat = s.counter.toNat % 2 ^ 32 ∧
    (readReg .offset s).toNat = s.offset.toNat ∧ (readReg .trunc s).toNat = s.trunc.toNat ∧
    (readReg .value s).toNat = s.value.toNat ∧
    (readReg .dinfo s).toNat = s.vdigits.toNat + 2 ^ 8 * s.codelen.toNat ∧
    (∀ k : Fin 16, readReg (.digestW k) s = s.digest[k]) ∧
    (readReg .msgW0 s).toNat =
      s.msg[0].toNat * 2 ^ 24 + s.msg[1].toNat * 2 ^ 16 + s.msg[2].toNat * 2 ^ 8 + s.msg[3].toNat ∧
    (readReg .msgW1 s).toNat =
      s.msg[4].toNat * 2 ^ 24 + s.msg[5].toNat * 2 ^ 16 + s.msg[6].toNat * 2 ^ 8 + s.msg[7].toNat ∧
    (readReg .codeW0 s).toNat =
      s.code[0].toNat * 2 ^ 24 + s.code[1].toNat * 2 ^ 16 + s.code[2].toNat * 2 ^ 8 + s.code[3].toNat ∧
    (readReg .codeW1 s).toNat =
      s.code[4].toNat * 2 ^ 24 + s.code[5].toNat * 2 ^ 16 + s.code[6].toNat * 2 ^ 8 + s.code[7].toNat ∧
    (readReg .codeW2 s).toNat =
      s.code[8].toNat * 2 ^ 24 + s.code[9].toNat * 2 ^ 16 + s.code[10].toNat * 2 ^ 8 + s.code[11].toNat

/-- 20_memory.md R68: what a legal write to each writable register does while BUSY = 0, by offset, and that it does nothing else
and answers OK(0). -/
def Obligations.WritesHaveExactlyTheirEffect : Prop :=
  ∀ (s : State) (off : BitVec 8) (v : Word) (m : Master) (rest : List Event), s.busy = false →
    s.agenda = .bus m ⟨.write v, off, .word⟩ :: rest →
    (off = 0x04 → step s = .next { s with
      alg := v.extractLsb' 0 2, digits := v.extractLsb' 8 4
      agenda := rest, trace := .served m ⟨.write v, off, .word⟩ (.ok 0) :: s.trace }) ∧
    (off = 0x08 → step s = .next { s with
      pend := v, lastop := v.extractLsb' 0 4, busy := true, done := false, err := false, errcode := 0
      agenda := rest, trace := .served m ⟨.write v, off, .word⟩ (.ok 0) :: s.trace }) ∧
    (off = 0x14 → ∃ c : BitVec 64, c.toNat = v.toNat * 2 ^ 32 + s.counter.toNat % 2 ^ 32 ∧ step s = .next { s with
      counter := c, agenda := rest, trace := .served m ⟨.write v, off, .word⟩ (.ok 0) :: s.trace }) ∧
    (off = 0x18 → ∃ c : BitVec 64, c.toNat = s.counter.toNat / 2 ^ 32 * 2 ^ 32 + v.toNat ∧ step s = .next { s with
      counter := c, agenda := rest, trace := .served m ⟨.write v, off, .word⟩ (.ok 0) :: s.trace }) ∧
    ∀ k : Fin 16, off.toNat = 0x40 + 4 * k.val → ∃ (d : Vector Word 16) (dv : BitVec 16),
      (∀ j : Fin 16, d[j] = if j = k then v else s.digest[j]) ∧
      (∀ j : Fin 16, dv.getLsbD j.val = if j = k then true else s.dvalid.getLsbD j.val) ∧
      step s = .next { s with
        digest := d, dvalid := dv, agenda := rest, trace := .served m ⟨.write v, off, .word⟩ (.ok 0) :: s.trace }

/-- 20_memory.md, sections 6 and 7: after a write to CTRL, COUNTER_HI, COUNTER_LO or a digest word, the register reads what was
written (CTRL without its reserved bits), and every other register reads as before, but DVALID after a digest write. -/
def Obligations.ReadAfterWriteGivesTheWrittenValue : Prop :=
  ∀ (s : State) (r : Reg) (v : Word) (m : Master) (rest : List Event), s.busy = false →
    (r = .ctrl ∨ r = .counterHi ∨ r = .counterLo ∨ ∃ k, r = .digestW k) →
    s.agenda = .bus m ⟨.write v, regOffset r, .word⟩ :: rest →
    ∃ u : State, step s = .next u ∧ (readReg r u = if r = .ctrl then v &&& 0x00000F03#32 else v) ∧
      ∀ q : Reg, q ≠ r → (q = .dvalid → ∀ k, r ≠ .digestW k) → readReg q u = readReg q s

/-- 20_memory.md, section 6: a write of the same value again to CTRL, COUNTER_HI, COUNTER_LO or a digest word by whichever
master, changes no component of the block. -/
def Obligations.RepeatedWriteChangesNothing : Prop :=
  ∀ (s : State) (r : Reg) (v : Word) (m n : Master) (rest : List Event), s.busy = false →
    (r = .ctrl ∨ r = .counterHi ∨ r = .counterLo ∨ ∃ k, r = .digestW k) →
    s.agenda = .bus m ⟨.write v, regOffset r, .word⟩ :: .bus n ⟨.write v, regOffset r, .word⟩ :: rest →
    ∃ u t : State, step s = .next u ∧ step u = .next t ∧
      t = { u with agenda := rest, trace := .served n ⟨.write v, regOffset r, .word⟩ (.ok 0) :: u.trace }

/-- 20_memory.md R68 and 10_state.md R33, in part: no bus transaction changes a result register or a valid flag, whatever it is and
whatever it answers. -/
def Obligations.BusNeverChangesResults : Prop :=
  ∀ (s : State) (t : Txn) (m : Master) (rest : List Event), s.agenda = .bus m t :: rest →
    ∃ u : State, step s = .next u ∧ u.agenda = rest ∧ u.msg = s.msg ∧ u.msgv = s.msgv ∧ u.offset = s.offset ∧ u.tv = s.tv ∧
      u.trunc = s.trunc ∧ u.value = s.value ∧ u.vv = s.vv ∧ u.vdigits = s.vdigits ∧ u.code = s.code ∧
      u.codelen = s.codelen ∧ u.cv = s.cv

/-- 20_memory.md, section 1: a system transaction reaches the block only in [BASE_ADDR, BASE_ADDR + 0xFF], at the offset
address - BASE_ADDR; it holds for every BASE_ADDR (log entry 4). -/
def Obligations.WindowIsDecodedFromTheBase : Prop :=
  ∀ (s : State) (x : SysTxn) (m : Master) (rest : List Event), s.agenda = .sys m x :: rest →
    (∀ off : BitVec 8, x.addr = Config.baseAddr + off.toNat →
      step s = step { s with agenda := .bus m ⟨x.access, off, x.size⟩ :: rest }) ∧
    ((x.addr < Config.baseAddr ∨ Config.baseAddr + 0xFF < x.addr) → step s = .next { s with agenda := rest })

/-- 10_state.md, section 7 (a derived rule): while a command is pending no transaction changes any component of the block. -/
def Obligations.OperandsAreFrozenWhileBusy : Prop :=
  ∀ (s : State) (t : Txn) (m : Master) (rest : List Event), s.busy = true → s.agenda = .bus m t :: rest →
    ∃ r : Response, step s = .next { s with agenda := rest, trace := .served m t r :: s.trace }

/-- 70_reset_and_hazards.md, section 4 (liveness): from every state with a pending command, the command has completed or was reset
away after at most one step more than the agenda is long. It rests on the model's fairness (log entry 2). -/
def Obligations.PendingCommandsFinish : Prop :=
  ∀ s : State, s.busy = true →
    ∃ (k : Nat) (t : State), k ≤ s.agenda.length + 1 ∧ Host.Core.run core k s = .next t ∧ t.busy = false

/-- At reset the record shows an idle engine and the engine is idle (70_reset_and_hazards.md, section 1), so the polling invariant of
Safety.lean holds; and the hosts have kept their duties and await no command. The empty record is the model's own (log entry 3), and
what the duties are is its reading (DEDUCED, log entry 14; DESIGN CHOICE, log entry 15). -/
def Obligations.PollingInvariantHoldsAtReset : Prop :=
  knownIdle State.reset.trace = true ∧ State.reset.busy = false ∧ PollInv State.reset ∧
  duties State.reset.trace = some ⟨false, false, false⟩

/-- Every step keeps the polling invariant: the engine is idle whenever the record has no acceptance of a command, or has after the last one
a STATUS read with BUSY = 0 or a reset. Nothing is asked of the hosts. -/
def Obligations.EveryStepKeepsThePollingInvariant : Prop :=
  ∀ s t : State, PollInv s → step s = .next t → PollInv t

/-- 70_reset_and_hazards.md, section 4: after a STATUS read with BUSY = 0 (or a reset) that follows the last accepted CMD write, the next
write to a writable register is answered OK. Only polling is asked of the hosts; the premise on the state is the polling invariant. -/
def Obligations.PolledWritesAreAccepted : Prop :=
  ∀ (s : State) (r : Reg) (v : Word) (m : Master) (rest : List Event), PollInv s → knownIdle s.trace = true →
    (r = .ctrl ∨ r = .cmd ∨ r = .counterHi ∨ r = .counterLo ∨ ∃ k, r = .digestW k) →
    s.agenda = .bus m ⟨.write v, regOffset r, .word⟩ :: rest →
    ∃ u : State, step s = .next u ∧ u.trace = .served m ⟨.write v, regOffset r, .word⟩ (.ok 0) :: s.trace

/-- A host that has kept its duties and awaits no command is one whose record shows an idle engine, so that the two statements above are
about it. The duties are the model's reading of 70_reset_and_hazards.md, section 6 (DEDUCED, log entry 14), which on a reset is its choice
(DESIGN CHOICE, log entry 15). -/
def Obligations.DutifulHostsKnowTheEngineIsIdle : Prop :=
  ∀ (os : List Observation) (d : Duty), duties os = some d → d.awaiting = false → knownIdle os = true

/-- 70_reset_and_hazards.md, section 6: with no command pending and nothing left on the agenda the state stays as it is (log entry
2: the model's step from there is the state itself). -/
def Obligations.IdleStateStays : Prop :=
  ∀ s : State, s.busy = false → s.agenda = [] → step s = .next s

/-- 70_reset_and_hazards.md, section 3: the engine's step is enabled only while BUSY = 1 (log entry 9: its turn is otherwise
spent on nothing). -/
def Obligations.EngineDoesNothingWhileIdle : Prop :=
  ∀ (s : State) (rest : List Event), s.busy = false → s.agenda = .engine :: rest → step s = .next { s with agenda := rest }

/-- 70_reset_and_hazards.md, configuration-change hazards, and 10_state.md, section 6: ALG is read only by TRUNCATE and GENERATE,
DIGITS only by REDUCE and GENERATE, COUNTER only by ENCODE. -/
def Obligations.ConfigurationIsReadOnlyWhereSpecified : Prop :=
  ∀ (i : Instr) (s : State),
    (i ≠ .truncate → i ≠ .generate → ∀ a : BitVec 2,
      ∃ t : State, exec i s = .next t ∧ exec i { s with alg := a } = .next { t with alg := a }) ∧
    (i ≠ .reduce → i ≠ .generate → ∀ n : BitVec 4,
      ∃ t : State, exec i s = .next t ∧ exec i { s with digits := n } = .next { t with digits := n }) ∧
    (i ≠ .encode → ∀ c : BitVec 64,
      ∃ t : State, exec i s = .next t ∧ exec i { s with counter := c } = .next { t with counter := c })

/-- 10_state.md, section 7: no hidden state: what a command writes does not depend on PEND, LASTOP, BUSY, DONE, ERR, ERRCODE, nor on
what came before or comes after (the model's trace and agenda). It may depend on the valid flags, which are STATUS fields too. -/
def Obligations.ResultsHaveNoHiddenInput : Prop :=
  ∀ (i : Instr) (s : State) (p : Word) (l e : BitVec 4) (b d r : Bool) (a : List Event) (tr : List Observation),
    ∃ t : State, exec i s = .next t ∧
      exec i { s with pend := p, lastop := l, busy := b, done := d, err := r, errcode := e, agenda := a, trace := tr } =
        .next { t with pend := p, lastop := l, agenda := a, trace := tr }

/-- 30_encoding.md, the table of what each command writes: every register outside a command's row, STATUS apart, reads after it
as before. -/
def Obligations.CommandsChangeOnlyTheirRegisters : Prop :=
  ∀ (i : Instr) (s t : State) (r : Reg), exec i s = .next t → r ≠ .status → writes i r = false → readReg r t = readReg r s

/-- 30_encoding.md, the same table: the valid flags and VDIGITS, CODELEN each command leaves alone. -/
def Obligations.CommandsChangeOnlyTheirFlags : Prop :=
  ∀ (i : Instr) (s t : State), exec i s = .next t →
    (i ≠ .encode → i ≠ .clear → t.msgv = s.msgv) ∧
    (i ≠ .truncate → i ≠ .generate → i ≠ .clear → t.tv = s.tv) ∧
    (i ≠ .truncate → i ≠ .reduce → i ≠ .generate → i ≠ .clear → t.vv = s.vv) ∧
    (i = .nop ∨ i = .encode → t.cv = s.cv) ∧
    (i ≠ .reduce → i ≠ .generate → i ≠ .clear → t.vdigits = s.vdigits) ∧
    (i ≠ .format → i ≠ .generate → i ≠ .clear → t.codelen = s.codelen) ∧
    (i ≠ .clear → t.digest = s.digest ∧ t.dvalid = s.dvalid)

/-- 70_reset_and_hazards.md, section 3: no result depends on when the engine's step fires: a read served before the completion
and one served after it leave the same block. -/
def Obligations.CompletionCommutesWithReads : Prop :=
  ∀ (s : State) (t : Txn) (m : Master) (rest : List Event), s.busy = true → t.access = .read → s.agenda = .bus m t :: .engine :: rest →
    ∃ u v u' v' : State, step s = .next u ∧ step u = .next v ∧
      step { s with agenda := .engine :: .bus m t :: rest } = .next u' ∧ step u' = .next v' ∧
      v = { v' with trace := v.trace }

/-- 30_encoding.md, section 3: SETCTR in two writes leaves COUNTER at its operand; SETCFG in one leaves ALG and DIGITS at its operands;
SETDIG of n bytes, a multiple of 4 and at most 64, in n/4 writes leaves its bytes in the first n digest bytes and their words' DVALID
bits set. Nothing else of the block changes. -/
def Obligations.SetStatementsLoadTheirOperands : Prop :=
  (∀ (s : State) (c : BitVec 64) (m : Master) (rest : List Event), s.busy = false →
    s.agenda = expand m (.setctr c) ++ rest →
    ∃ t : State, Host.Core.run core 2 s = .next t ∧ t = { s with counter := c, agenda := rest, trace := t.trace }) ∧
  (∀ (s : State) (a : BitVec 2) (n : BitVec 4) (m : Master) (rest : List Event), s.busy = false →
    s.agenda = expand m (.setcfg a n) ++ rest →
    ∃ t : State, step s = .next t ∧ t = { s with alg := a, digits := n, agenda := rest, trace := t.trace }) ∧
  ∀ (s : State) (bytes : List Byte) (m : Master) (rest : List Event), s.busy = false →
    stmtWf (.setdig bytes) = true → s.agenda = expand m (.setdig bytes) ++ rest →
    ∃ t : State, Host.Core.run core (bytes.length / 4) s = .next t ∧
      (∀ i : Fin 64, digestByte t.digest i = if h : i.val < bytes.length then bytes[i.val] else digestByte s.digest i) ∧
      (∀ k : Fin 16, t.dvalid.getLsbD k.val = (decide (k.val < bytes.length / 4) || s.dvalid.getLsbD k.val)) ∧
      t = { s with digest := t.digest, dvalid := t.dvalid, agenda := rest, trace := t.trace }

/-- 30_encoding.md, section 3, and 70_reset_and_hazards.md, section 2: RUN, however many of its polls see BUSY = 1 (log entry 12), leaves
the block as acceptance of the command's word and its completion leave it, whatever that result is. -/
def Obligations.RunStatementCompletesTheCommand : Prop :=
  ∀ (s : State) (i : Instr) (polls : Nat) (m : Master) (rest : List Event), s.busy = false → s.agenda = expand m (.run i polls) ++ rest →
    ∃ t u : State, Host.Core.run core (polls + 3) s = .next t ∧ command i s = .next u ∧
      t = { u with agenda := rest, trace := t.trace }

/-- 20_memory.md, section 7, and 60_exceptions.md, section 5: masters own nothing and the block does not tell them apart: the same
transaction by any two of them has one effect and one response. Who issued it is only the model's record (log entry 16). -/
def Obligations.MastersAreNotToldApart : Prop :=
  ∀ (s : State) (t : Txn) (m n : Master) (rest : List Event),
    ∃ (u : State) (r : Response),
      step { s with agenda := .bus m t :: rest } = .next { u with trace := .served m t r :: s.trace } ∧
      step { s with agenda := .bus n t :: rest } = .next { u with trace := .served n t r :: s.trace }

/-- 70_reset_and_hazards.md, section 6: when a run has ended, a STATUS read with BUSY = 0 having followed its last CMD write, no command
is pending, and with nothing more on the agenda the state stays as it is (log entry 2). The premises are the polling invariant and that the
record showed an idle engine when the run began. -/
def Obligations.EndedRunsStayAsTheyAre : Prop :=
  ∀ (s : State) (run before : List Observation), PollInv s → s.trace = run ++ before → knownIdle before = true →
    polled run = true → s.busy = false ∧ (s.agenda = [] → step s = .next s)
end

