-- ==== Sys2Proof/Laws/Decode.lean ====
section
/-! SUPPORT. The fields of the command word as numbers (spec/30_encoding.md R91). -/

namespace Sys2Proof

/-- RES is zero exactly when the word is below 16. -/
theorem resField_eq_zero_iff (w : Word) : w.extractLsb' 4 28 = 0 ↔ w.toNat / 16 = 0 := by
  have h := w.isLt
  rw [← BitVec.toNat_inj]
  simp only [BitVec.extractLsb'_toNat, Nat.shiftRight_eq_div_pow, BitVec.ofNat_eq_ofNat, BitVec.toNat_ofNat]
  norm_num
  omega

/-- OP is the word modulo 16. -/
theorem opField_toNat (w : Word) : (w.extractLsb' 0 4).toNat = w.toNat % 16 := by simp

/-- The RES test in the form the definitions use. -/
theorem resClear_iff (w : Word) : resClear w = true ↔ w.toNat / 16 = 0 := by
  rw [resClear, beq_iff_eq, resField_eq_zero_iff]

/-- The OP test in the form the definitions use. -/
theorem opAssigned_iff (w : Word) : opAssigned w = true ↔ w.toNat % 16 ≤ 6 := by
  rw [opAssigned, decide_eq_true_iff, opField_toNat]

end Sys2Proof
end

