-- ==== Sys2Proof/Laws/Operands.lean ====
section
/-! SUPPORT. What the operand forms compute, said once: their values as numbers, their bytes by index, their ranges. -/

namespace Sys2Proof.Machine

/-- Concatenation as arithmetic, the first operand in the high bits (spec/00_scope.md R9). -/
theorem append_toNat {m n : Nat} (x : BitVec m) (y : BitVec n) : (x ++ y).toNat = x.toNat * 2 ^ n + y.toNat := by
  rw [BitVec.toNat_append, ← Nat.shiftLeft_add_eq_or_of_lt y.isLt, Nat.shiftLeft_eq]

/-- BE32 as the arithmetic of spec/00_scope.md R13. -/
theorem be32_toNat (b0 b1 b2 b3 : Byte) :
    (be32 b0 b1 b2 b3).toNat = b0.toNat * 2 ^ 24 + b1.toNat * 2 ^ 16 + b2.toNat * 2 ^ 8 + b3.toNat := by
  simp only [be32, append_toNat]
  omega

/-- The value 3 is the one ALG encoding outside the enumeration (spec/10_state.md R25). -/
theorem algOf_eq_none {alg : BitVec 2} : algOf alg = none ↔ alg = 3 := by
  revert alg; decide

/-- The ALG encodings of the algorithms, with how many digest words and which last byte each has (R25). -/
theorem algOf_eq_some {alg : BitVec 2} {a : Alg} (h : algOf alg = some a) :
    (alg = 0 ∧ a = .sha1) ∨ (alg = 1 ∧ a = .sha256) ∨ (alg = 2 ∧ a = .sha512) := by
  revert h; revert alg; cases a <;> decide

theorem algOf_zero : algOf 0 = some .sha1 := by decide
theorem algOf_one : algOf 1 = some .sha256 := by decide
theorem algOf_two : algOf 2 = some .sha512 := by decide

/-- An algorithm needs at most the sixteen digest words there are. -/
theorem digestWords_le (a : Alg) : digestWords a ≤ 16 := by cases a <;> decide

/-- A field of ones: its number is 2^n - 1 exactly when every bit is set. -/
theorem toNat_eq_ones_iff {n : Nat} (x : BitVec n) : x.toNat = 2 ^ n - 1 ↔ ∀ k, k < n → x.getLsbD k = true := by
  rw [← BitVec.toNat_allOnes, ← BitVec.toNat_eq]
  constructor
  · rintro rfl k hk
    simp [hk]
  · intro h
    apply BitVec.eq_of_getLsbD_eq
    intro k hk
    simp [hk, h k hk]

/-- The DVALID test of spec/41_truncation.md R121 says that every word the algorithm needs was written. -/
theorem digestComplete_iff (a : Alg) (dv : BitVec 16) :
    digestComplete a dv = true ↔ ∀ k, k < digestWords a → dv.getLsbD k = true := by
  have hw := digestWords_le a
  rw [digestComplete, beq_iff_eq, toNat_eq_ones_iff]
  constructor
  · intro h k hk
    simpa [BitVec.getLsbD_extractLsb', hk] using h k hk
  · intro h k hk
    simpa [BitVec.getLsbD_extractLsb', hk] using h k hk

/-- The same, where the test fails. -/
theorem digestComplete_eq_false_iff (a : Alg) (dv : BitVec 16) :
    digestComplete a dv = false ↔ ∃ k, k < digestWords a ∧ dv.getLsbD k = false := by
  rw [← Bool.not_eq_true, digestComplete_iff]
  simp [Bool.not_eq_true]

/-- The offset is the low nibble of the last digest byte. -/
theorem truncOffset_toNat (a : Alg) (d : Vector Word 16) :
    (truncOffset a d).toNat = (digestByte d (lastByte a)).toNat % 2 ^ 4 := by
  simp [truncOffset]

/-- The window of an offset lies in bytes 0 to 18 (spec/41_truncation.md R122). -/
theorem windowByte_eq (d : Vector Word 16) (off : BitVec 4) (j : Fin 4) :
    windowByte d off j = digestByte d (Fin.ofNat 64 (off.toNat + j.val)) := by
  have ho := off.isLt
  have hj := j.isLt
  have h : (⟨off.toNat + j.val, by omega⟩ : Fin 64) = Fin.ofNat 64 (off.toNat + j.val) := by
    apply Fin.ext
    simp only [Fin.ofNat]
    omega
  rw [windowByte, h]

/-- The truncated value as the arithmetic of R121. -/
theorem truncValue_toNat (d : Vector Word 16) (off : BitVec 4) :
    (truncValue d off).toNat = ((windowByte d off 0).toNat * 2 ^ 24 + (windowByte d off 1).toNat * 2 ^ 16 +
      (windowByte d off 2).toNat * 2 ^ 8 + (windowByte d off 3).toNat) % 2 ^ 31 := by
  simp only [truncValue, truncWindow, BitVec.extractLsb'_toNat, Nat.shiftRight_zero, be32_toNat]

theorem digitsLegal_iff (n : BitVec 4) : digitsLegal n = true ↔ 1 ≤ n.toNat ∧ n.toNat ≤ 10 := by
  simp [digitsLegal]

theorem digitsLegal_eq_false_iff (n : BitVec 4) : digitsLegal n = false ↔ n.toNat < 1 ∨ 10 < n.toNat := by
  rw [← Bool.not_eq_true, digitsLegal_iff]
  omega

/-- The remainder needs no more than the 31 bits of VALUE (spec/10_state.md R40). -/
theorem reduceMod_toNat (t : BitVec 31) (n : BitVec 4) : (reduceMod t n).toNat = t.toNat % 10 ^ n.toNat := by
  have h : t.toNat % 10 ^ n.toNat < 2 ^ 31 := Nat.lt_of_le_of_lt (Nat.mod_le _ _) t.isLt
  simp only [reduceMod, BitVec.toNat_ofNat]
  exact Nat.mod_eq_of_lt h

/-- A digit character lies in 0x30..0x39 (spec/43_code_formatter.md R142). -/
theorem digitChar_toNat {d : Nat} (h : d < 10) : (digitChar d).toNat = 0x30 + d := by
  simp only [digitChar, BitVec.toNat_ofNat]
  omega

theorem codeChar_toNat_of_lt {v : BitVec 31} {n : BitVec 4} {j : Nat} (h : j < n.toNat) :
    (codeChar v n j).toNat = 0x30 + v.toNat / 10 ^ (n.toNat - 1 - j) % 10 := by
  rw [codeChar, if_pos h, digitChar_toNat (Nat.mod_lt _ (by decide))]

theorem codeChar_eq_zero {v : BitVec 31} {n : BitVec 4} {j : Nat} (h : n.toNat ≤ j) : codeChar v n j = 0 := by
  rw [codeChar, if_neg (Nat.not_lt.mpr h)]

/-- The code byte j is CB(j). -/
theorem formatCode_get (v : BitVec 31) (n : BitVec 4) (j : Fin 12) : (formatCode v n)[j.val] = codeChar v n j.val := by
  revert j
  simp [Fin.forall_fin_succ, formatCode]

/-- The message byte i is MB(i). -/
theorem encodeCounter_get (c : BitVec 64) (i : Fin 8) : (encodeCounter c)[i.val] = counterByte c i.val := by
  revert i
  simp [Fin.forall_fin_succ, encodeCounter]

end Sys2Proof.Machine
end

