-- ==== Sys2Proof/Laws/State.lean ====
section
/-! SUPPORT. What each named update of the state does to each field, one lemma each, so that no proof unfolds a record update. -/

namespace Sys2Proof.Machine

/-! The fields after complete(e) (R207). -/

@[simp] theorem complete_alg (e : BitVec 4) (s : State) : (complete e s).alg = s.alg := rfl
@[simp] theorem complete_digits (e : BitVec 4) (s : State) : (complete e s).digits = s.digits := rfl
@[simp] theorem complete_counter (e : BitVec 4) (s : State) : (complete e s).counter = s.counter := rfl
@[simp] theorem complete_msg (e : BitVec 4) (s : State) : (complete e s).msg = s.msg := rfl
@[simp] theorem complete_msgv (e : BitVec 4) (s : State) : (complete e s).msgv = s.msgv := rfl
@[simp] theorem complete_digest (e : BitVec 4) (s : State) : (complete e s).digest = s.digest := rfl
@[simp] theorem complete_dvalid (e : BitVec 4) (s : State) : (complete e s).dvalid = s.dvalid := rfl
@[simp] theorem complete_offset (e : BitVec 4) (s : State) : (complete e s).offset = s.offset := rfl
@[simp] theorem complete_tv (e : BitVec 4) (s : State) : (complete e s).tv = s.tv := rfl
@[simp] theorem complete_trunc (e : BitVec 4) (s : State) : (complete e s).trunc = s.trunc := rfl
@[simp] theorem complete_value (e : BitVec 4) (s : State) : (complete e s).value = s.value := rfl
@[simp] theorem complete_vv (e : BitVec 4) (s : State) : (complete e s).vv = s.vv := rfl
@[simp] theorem complete_vdigits (e : BitVec 4) (s : State) : (complete e s).vdigits = s.vdigits := rfl
@[simp] theorem complete_code (e : BitVec 4) (s : State) : (complete e s).code = s.code := rfl
@[simp] theorem complete_codelen (e : BitVec 4) (s : State) : (complete e s).codelen = s.codelen := rfl
@[simp] theorem complete_cv (e : BitVec 4) (s : State) : (complete e s).cv = s.cv := rfl
@[simp] theorem complete_busy (e : BitVec 4) (s : State) : (complete e s).busy = false := rfl
@[simp] theorem complete_done (e : BitVec 4) (s : State) : (complete e s).done = true := rfl
@[simp] theorem complete_err (e : BitVec 4) (s : State) : (complete e s).err = (e != 0) := rfl
@[simp] theorem complete_errcode (e : BitVec 4) (s : State) : (complete e s).errcode = e := rfl
@[simp] theorem complete_lastop (e : BitVec 4) (s : State) : (complete e s).lastop = s.lastop := rfl
@[simp] theorem complete_pend (e : BitVec 4) (s : State) : (complete e s).pend = s.pend := rfl
@[simp] theorem complete_agenda (e : BitVec 4) (s : State) : (complete e s).agenda = s.agenda := rfl
@[simp] theorem complete_trace (e : BitVec 4) (s : State) : (complete e s).trace = s.trace := rfl

/-! The fields after accept(w) (R206). -/

@[simp] theorem accept_alg (w : Word) (s : State) : (accept w s).alg = s.alg := rfl
@[simp] theorem accept_digits (w : Word) (s : State) : (accept w s).digits = s.digits := rfl
@[simp] theorem accept_counter (w : Word) (s : State) : (accept w s).counter = s.counter := rfl
@[simp] theorem accept_msg (w : Word) (s : State) : (accept w s).msg = s.msg := rfl
@[simp] theorem accept_msgv (w : Word) (s : State) : (accept w s).msgv = s.msgv := rfl
@[simp] theorem accept_digest (w : Word) (s : State) : (accept w s).digest = s.digest := rfl
@[simp] theorem accept_dvalid (w : Word) (s : State) : (accept w s).dvalid = s.dvalid := rfl
@[simp] theorem accept_offset (w : Word) (s : State) : (accept w s).offset = s.offset := rfl
@[simp] theorem accept_tv (w : Word) (s : State) : (accept w s).tv = s.tv := rfl
@[simp] theorem accept_trunc (w : Word) (s : State) : (accept w s).trunc = s.trunc := rfl
@[simp] theorem accept_value (w : Word) (s : State) : (accept w s).value = s.value := rfl
@[simp] theorem accept_vv (w : Word) (s : State) : (accept w s).vv = s.vv := rfl
@[simp] theorem accept_vdigits (w : Word) (s : State) : (accept w s).vdigits = s.vdigits := rfl
@[simp] theorem accept_code (w : Word) (s : State) : (accept w s).code = s.code := rfl
@[simp] theorem accept_codelen (w : Word) (s : State) : (accept w s).codelen = s.codelen := rfl
@[simp] theorem accept_cv (w : Word) (s : State) : (accept w s).cv = s.cv := rfl
@[simp] theorem accept_busy (w : Word) (s : State) : (accept w s).busy = true := rfl
@[simp] theorem accept_done (w : Word) (s : State) : (accept w s).done = false := rfl
@[simp] theorem accept_err (w : Word) (s : State) : (accept w s).err = false := rfl
@[simp] theorem accept_errcode (w : Word) (s : State) : (accept w s).errcode = 0 := rfl
@[simp] theorem accept_lastop (w : Word) (s : State) : (accept w s).lastop = w.extractLsb' 0 4 := rfl
@[simp] theorem accept_pend (w : Word) (s : State) : (accept w s).pend = w := rfl
@[simp] theorem accept_agenda (w : Word) (s : State) : (accept w s).agenda = s.agenda := rfl
@[simp] theorem accept_trace (w : Word) (s : State) : (accept w s).trace = s.trace := rfl

/-! The fields after a message. -/

@[simp] theorem setMsg_alg (m : Vector Byte 8) (s : State) : (setMsg m s).alg = s.alg := rfl
@[simp] theorem setMsg_digits (m : Vector Byte 8) (s : State) : (setMsg m s).digits = s.digits := rfl
@[simp] theorem setMsg_counter (m : Vector Byte 8) (s : State) : (setMsg m s).counter = s.counter := rfl
@[simp] theorem setMsg_msg (m : Vector Byte 8) (s : State) : (setMsg m s).msg = m := rfl
@[simp] theorem setMsg_msgv (m : Vector Byte 8) (s : State) : (setMsg m s).msgv = true := rfl
@[simp] theorem setMsg_digest (m : Vector Byte 8) (s : State) : (setMsg m s).digest = s.digest := rfl
@[simp] theorem setMsg_dvalid (m : Vector Byte 8) (s : State) : (setMsg m s).dvalid = s.dvalid := rfl
@[simp] theorem setMsg_offset (m : Vector Byte 8) (s : State) : (setMsg m s).offset = s.offset := rfl
@[simp] theorem setMsg_tv (m : Vector Byte 8) (s : State) : (setMsg m s).tv = s.tv := rfl
@[simp] theorem setMsg_trunc (m : Vector Byte 8) (s : State) : (setMsg m s).trunc = s.trunc := rfl
@[simp] theorem setMsg_value (m : Vector Byte 8) (s : State) : (setMsg m s).value = s.value := rfl
@[simp] theorem setMsg_vv (m : Vector Byte 8) (s : State) : (setMsg m s).vv = s.vv := rfl
@[simp] theorem setMsg_vdigits (m : Vector Byte 8) (s : State) : (setMsg m s).vdigits = s.vdigits := rfl
@[simp] theorem setMsg_code (m : Vector Byte 8) (s : State) : (setMsg m s).code = s.code := rfl
@[simp] theorem setMsg_codelen (m : Vector Byte 8) (s : State) : (setMsg m s).codelen = s.codelen := rfl
@[simp] theorem setMsg_cv (m : Vector Byte 8) (s : State) : (setMsg m s).cv = s.cv := rfl
@[simp] theorem setMsg_busy (m : Vector Byte 8) (s : State) : (setMsg m s).busy = s.busy := rfl
@[simp] theorem setMsg_done (m : Vector Byte 8) (s : State) : (setMsg m s).done = s.done := rfl
@[simp] theorem setMsg_err (m : Vector Byte 8) (s : State) : (setMsg m s).err = s.err := rfl
@[simp] theorem setMsg_errcode (m : Vector Byte 8) (s : State) : (setMsg m s).errcode = s.errcode := rfl
@[simp] theorem setMsg_lastop (m : Vector Byte 8) (s : State) : (setMsg m s).lastop = s.lastop := rfl
@[simp] theorem setMsg_pend (m : Vector Byte 8) (s : State) : (setMsg m s).pend = s.pend := rfl
@[simp] theorem setMsg_agenda (m : Vector Byte 8) (s : State) : (setMsg m s).agenda = s.agenda := rfl
@[simp] theorem setMsg_trace (m : Vector Byte 8) (s : State) : (setMsg m s).trace = s.trace := rfl

/-! The fields after a truncation. -/

@[simp] theorem setTrunc_alg (o : BitVec 4) (v : BitVec 31) (s : State) : (setTrunc o v s).alg = s.alg := rfl
@[simp] theorem setTrunc_digits (o : BitVec 4) (v : BitVec 31) (s : State) : (setTrunc o v s).digits = s.digits := rfl
@[simp] theorem setTrunc_counter (o : BitVec 4) (v : BitVec 31) (s : State) : (setTrunc o v s).counter = s.counter := rfl
@[simp] theorem setTrunc_msg (o : BitVec 4) (v : BitVec 31) (s : State) : (setTrunc o v s).msg = s.msg := rfl
@[simp] theorem setTrunc_msgv (o : BitVec 4) (v : BitVec 31) (s : State) : (setTrunc o v s).msgv = s.msgv := rfl
@[simp] theorem setTrunc_digest (o : BitVec 4) (v : BitVec 31) (s : State) : (setTrunc o v s).digest = s.digest := rfl
@[simp] theorem setTrunc_dvalid (o : BitVec 4) (v : BitVec 31) (s : State) : (setTrunc o v s).dvalid = s.dvalid := rfl
@[simp] theorem setTrunc_offset (o : BitVec 4) (v : BitVec 31) (s : State) : (setTrunc o v s).offset = o := rfl
@[simp] theorem setTrunc_tv (o : BitVec 4) (v : BitVec 31) (s : State) : (setTrunc o v s).tv = true := rfl
@[simp] theorem setTrunc_trunc (o : BitVec 4) (v : BitVec 31) (s : State) : (setTrunc o v s).trunc = v := rfl
@[simp] theorem setTrunc_value (o : BitVec 4) (v : BitVec 31) (s : State) : (setTrunc o v s).value = s.value := rfl
@[simp] theorem setTrunc_vv (o : BitVec 4) (v : BitVec 31) (s : State) : (setTrunc o v s).vv = s.vv := rfl
@[simp] theorem setTrunc_vdigits (o : BitVec 4) (v : BitVec 31) (s : State) : (setTrunc o v s).vdigits = s.vdigits := rfl
@[simp] theorem setTrunc_code (o : BitVec 4) (v : BitVec 31) (s : State) : (setTrunc o v s).code = s.code := rfl
@[simp] theorem setTrunc_codelen (o : BitVec 4) (v : BitVec 31) (s : State) : (setTrunc o v s).codelen = s.codelen := rfl
@[simp] theorem setTrunc_cv (o : BitVec 4) (v : BitVec 31) (s : State) : (setTrunc o v s).cv = s.cv := rfl
@[simp] theorem setTrunc_busy (o : BitVec 4) (v : BitVec 31) (s : State) : (setTrunc o v s).busy = s.busy := rfl
@[simp] theorem setTrunc_done (o : BitVec 4) (v : BitVec 31) (s : State) : (setTrunc o v s).done = s.done := rfl
@[simp] theorem setTrunc_err (o : BitVec 4) (v : BitVec 31) (s : State) : (setTrunc o v s).err = s.err := rfl
@[simp] theorem setTrunc_errcode (o : BitVec 4) (v : BitVec 31) (s : State) : (setTrunc o v s).errcode = s.errcode := rfl
@[simp] theorem setTrunc_lastop (o : BitVec 4) (v : BitVec 31) (s : State) : (setTrunc o v s).lastop = s.lastop := rfl
@[simp] theorem setTrunc_pend (o : BitVec 4) (v : BitVec 31) (s : State) : (setTrunc o v s).pend = s.pend := rfl
@[simp] theorem setTrunc_agenda (o : BitVec 4) (v : BitVec 31) (s : State) : (setTrunc o v s).agenda = s.agenda := rfl
@[simp] theorem setTrunc_trace (o : BitVec 4) (v : BitVec 31) (s : State) : (setTrunc o v s).trace = s.trace := rfl

/-! The fields after a reduction. -/

@[simp] theorem setValue_alg (v : BitVec 31) (n : BitVec 4) (s : State) : (setValue v n s).alg = s.alg := rfl
@[simp] theorem setValue_digits (v : BitVec 31) (n : BitVec 4) (s : State) : (setValue v n s).digits = s.digits := rfl
@[simp] theorem setValue_counter (v : BitVec 31) (n : BitVec 4) (s : State) : (setValue v n s).counter = s.counter := rfl
@[simp] theorem setValue_msg (v : BitVec 31) (n : BitVec 4) (s : State) : (setValue v n s).msg = s.msg := rfl
@[simp] theorem setValue_msgv (v : BitVec 31) (n : BitVec 4) (s : State) : (setValue v n s).msgv = s.msgv := rfl
@[simp] theorem setValue_digest (v : BitVec 31) (n : BitVec 4) (s : State) : (setValue v n s).digest = s.digest := rfl
@[simp] theorem setValue_dvalid (v : BitVec 31) (n : BitVec 4) (s : State) : (setValue v n s).dvalid = s.dvalid := rfl
@[simp] theorem setValue_offset (v : BitVec 31) (n : BitVec 4) (s : State) : (setValue v n s).offset = s.offset := rfl
@[simp] theorem setValue_tv (v : BitVec 31) (n : BitVec 4) (s : State) : (setValue v n s).tv = s.tv := rfl
@[simp] theorem setValue_trunc (v : BitVec 31) (n : BitVec 4) (s : State) : (setValue v n s).trunc = s.trunc := rfl
@[simp] theorem setValue_value (v : BitVec 31) (n : BitVec 4) (s : State) : (setValue v n s).value = v := rfl
@[simp] theorem setValue_vv (v : BitVec 31) (n : BitVec 4) (s : State) : (setValue v n s).vv = true := rfl
@[simp] theorem setValue_vdigits (v : BitVec 31) (n : BitVec 4) (s : State) : (setValue v n s).vdigits = n := rfl
@[simp] theorem setValue_code (v : BitVec 31) (n : BitVec 4) (s : State) : (setValue v n s).code = s.code := rfl
@[simp] theorem setValue_codelen (v : BitVec 31) (n : BitVec 4) (s : State) : (setValue v n s).codelen = s.codelen := rfl
@[simp] theorem setValue_cv (v : BitVec 31) (n : BitVec 4) (s : State) : (setValue v n s).cv = s.cv := rfl
@[simp] theorem setValue_busy (v : BitVec 31) (n : BitVec 4) (s : State) : (setValue v n s).busy = s.busy := rfl
@[simp] theorem setValue_done (v : BitVec 31) (n : BitVec 4) (s : State) : (setValue v n s).done = s.done := rfl
@[simp] theorem setValue_err (v : BitVec 31) (n : BitVec 4) (s : State) : (setValue v n s).err = s.err := rfl
@[simp] theorem setValue_errcode (v : BitVec 31) (n : BitVec 4) (s : State) : (setValue v n s).errcode = s.errcode := rfl
@[simp] theorem setValue_lastop (v : BitVec 31) (n : BitVec 4) (s : State) : (setValue v n s).lastop = s.lastop := rfl
@[simp] theorem setValue_pend (v : BitVec 31) (n : BitVec 4) (s : State) : (setValue v n s).pend = s.pend := rfl
@[simp] theorem setValue_agenda (v : BitVec 31) (n : BitVec 4) (s : State) : (setValue v n s).agenda = s.agenda := rfl
@[simp] theorem setValue_trace (v : BitVec 31) (n : BitVec 4) (s : State) : (setValue v n s).trace = s.trace := rfl

/-! The fields after a code. -/

@[simp] theorem setCode_alg (cs : Vector Byte 12) (n : BitVec 4) (s : State) : (setCode cs n s).alg = s.alg := rfl
@[simp] theorem setCode_digits (cs : Vector Byte 12) (n : BitVec 4) (s : State) : (setCode cs n s).digits = s.digits := rfl
@[simp] theorem setCode_counter (cs : Vector Byte 12) (n : BitVec 4) (s : State) : (setCode cs n s).counter = s.counter := rfl
@[simp] theorem setCode_msg (cs : Vector Byte 12) (n : BitVec 4) (s : State) : (setCode cs n s).msg = s.msg := rfl
@[simp] theorem setCode_msgv (cs : Vector Byte 12) (n : BitVec 4) (s : State) : (setCode cs n s).msgv = s.msgv := rfl
@[simp] theorem setCode_digest (cs : Vector Byte 12) (n : BitVec 4) (s : State) : (setCode cs n s).digest = s.digest := rfl
@[simp] theorem setCode_dvalid (cs : Vector Byte 12) (n : BitVec 4) (s : State) : (setCode cs n s).dvalid = s.dvalid := rfl
@[simp] theorem setCode_offset (cs : Vector Byte 12) (n : BitVec 4) (s : State) : (setCode cs n s).offset = s.offset := rfl
@[simp] theorem setCode_tv (cs : Vector Byte 12) (n : BitVec 4) (s : State) : (setCode cs n s).tv = s.tv := rfl
@[simp] theorem setCode_trunc (cs : Vector Byte 12) (n : BitVec 4) (s : State) : (setCode cs n s).trunc = s.trunc := rfl
@[simp] theorem setCode_value (cs : Vector Byte 12) (n : BitVec 4) (s : State) : (setCode cs n s).value = s.value := rfl
@[simp] theorem setCode_vv (cs : Vector Byte 12) (n : BitVec 4) (s : State) : (setCode cs n s).vv = s.vv := rfl
@[simp] theorem setCode_vdigits (cs : Vector Byte 12) (n : BitVec 4) (s : State) : (setCode cs n s).vdigits = s.vdigits := rfl
@[simp] theorem setCode_code (cs : Vector Byte 12) (n : BitVec 4) (s : State) : (setCode cs n s).code = cs := rfl
@[simp] theorem setCode_codelen (cs : Vector Byte 12) (n : BitVec 4) (s : State) : (setCode cs n s).codelen = n := rfl
@[simp] theorem setCode_cv (cs : Vector Byte 12) (n : BitVec 4) (s : State) : (setCode cs n s).cv = true := rfl
@[simp] theorem setCode_busy (cs : Vector Byte 12) (n : BitVec 4) (s : State) : (setCode cs n s).busy = s.busy := rfl
@[simp] theorem setCode_done (cs : Vector Byte 12) (n : BitVec 4) (s : State) : (setCode cs n s).done = s.done := rfl
@[simp] theorem setCode_err (cs : Vector Byte 12) (n : BitVec 4) (s : State) : (setCode cs n s).err = s.err := rfl
@[simp] theorem setCode_errcode (cs : Vector Byte 12) (n : BitVec 4) (s : State) : (setCode cs n s).errcode = s.errcode := rfl
@[simp] theorem setCode_lastop (cs : Vector Byte 12) (n : BitVec 4) (s : State) : (setCode cs n s).lastop = s.lastop := rfl
@[simp] theorem setCode_pend (cs : Vector Byte 12) (n : BitVec 4) (s : State) : (setCode cs n s).pend = s.pend := rfl
@[simp] theorem setCode_agenda (cs : Vector Byte 12) (n : BitVec 4) (s : State) : (setCode cs n s).agenda = s.agenda := rfl
@[simp] theorem setCode_trace (cs : Vector Byte 12) (n : BitVec 4) (s : State) : (setCode cs n s).trace = s.trace := rfl

/-! The fields after VV cleared. -/

@[simp] theorem clearVV_alg (s : State) : (clearVV s).alg = s.alg := rfl
@[simp] theorem clearVV_digits (s : State) : (clearVV s).digits = s.digits := rfl
@[simp] theorem clearVV_counter (s : State) : (clearVV s).counter = s.counter := rfl
@[simp] theorem clearVV_msg (s : State) : (clearVV s).msg = s.msg := rfl
@[simp] theorem clearVV_msgv (s : State) : (clearVV s).msgv = s.msgv := rfl
@[simp] theorem clearVV_digest (s : State) : (clearVV s).digest = s.digest := rfl
@[simp] theorem clearVV_dvalid (s : State) : (clearVV s).dvalid = s.dvalid := rfl
@[simp] theorem clearVV_offset (s : State) : (clearVV s).offset = s.offset := rfl
@[simp] theorem clearVV_tv (s : State) : (clearVV s).tv = s.tv := rfl
@[simp] theorem clearVV_trunc (s : State) : (clearVV s).trunc = s.trunc := rfl
@[simp] theorem clearVV_value (s : State) : (clearVV s).value = s.value := rfl
@[simp] theorem clearVV_vv (s : State) : (clearVV s).vv = false := rfl
@[simp] theorem clearVV_vdigits (s : State) : (clearVV s).vdigits = s.vdigits := rfl
@[simp] theorem clearVV_code (s : State) : (clearVV s).code = s.code := rfl
@[simp] theorem clearVV_codelen (s : State) : (clearVV s).codelen = s.codelen := rfl
@[simp] theorem clearVV_cv (s : State) : (clearVV s).cv = s.cv := rfl
@[simp] theorem clearVV_busy (s : State) : (clearVV s).busy = s.busy := rfl
@[simp] theorem clearVV_done (s : State) : (clearVV s).done = s.done := rfl
@[simp] theorem clearVV_err (s : State) : (clearVV s).err = s.err := rfl
@[simp] theorem clearVV_errcode (s : State) : (clearVV s).errcode = s.errcode := rfl
@[simp] theorem clearVV_lastop (s : State) : (clearVV s).lastop = s.lastop := rfl
@[simp] theorem clearVV_pend (s : State) : (clearVV s).pend = s.pend := rfl
@[simp] theorem clearVV_agenda (s : State) : (clearVV s).agenda = s.agenda := rfl
@[simp] theorem clearVV_trace (s : State) : (clearVV s).trace = s.trace := rfl

/-! The fields after CV cleared. -/

@[simp] theorem clearCV_alg (s : State) : (clearCV s).alg = s.alg := rfl
@[simp] theorem clearCV_digits (s : State) : (clearCV s).digits = s.digits := rfl
@[simp] theorem clearCV_counter (s : State) : (clearCV s).counter = s.counter := rfl
@[simp] theorem clearCV_msg (s : State) : (clearCV s).msg = s.msg := rfl
@[simp] theorem clearCV_msgv (s : State) : (clearCV s).msgv = s.msgv := rfl
@[simp] theorem clearCV_digest (s : State) : (clearCV s).digest = s.digest := rfl
@[simp] theorem clearCV_dvalid (s : State) : (clearCV s).dvalid = s.dvalid := rfl
@[simp] theorem clearCV_offset (s : State) : (clearCV s).offset = s.offset := rfl
@[simp] theorem clearCV_tv (s : State) : (clearCV s).tv = s.tv := rfl
@[simp] theorem clearCV_trunc (s : State) : (clearCV s).trunc = s.trunc := rfl
@[simp] theorem clearCV_value (s : State) : (clearCV s).value = s.value := rfl
@[simp] theorem clearCV_vv (s : State) : (clearCV s).vv = s.vv := rfl
@[simp] theorem clearCV_vdigits (s : State) : (clearCV s).vdigits = s.vdigits := rfl
@[simp] theorem clearCV_code (s : State) : (clearCV s).code = s.code := rfl
@[simp] theorem clearCV_codelen (s : State) : (clearCV s).codelen = s.codelen := rfl
@[simp] theorem clearCV_cv (s : State) : (clearCV s).cv = false := rfl
@[simp] theorem clearCV_busy (s : State) : (clearCV s).busy = s.busy := rfl
@[simp] theorem clearCV_done (s : State) : (clearCV s).done = s.done := rfl
@[simp] theorem clearCV_err (s : State) : (clearCV s).err = s.err := rfl
@[simp] theorem clearCV_errcode (s : State) : (clearCV s).errcode = s.errcode := rfl
@[simp] theorem clearCV_lastop (s : State) : (clearCV s).lastop = s.lastop := rfl
@[simp] theorem clearCV_pend (s : State) : (clearCV s).pend = s.pend := rfl
@[simp] theorem clearCV_agenda (s : State) : (clearCV s).agenda = s.agenda := rfl
@[simp] theorem clearCV_trace (s : State) : (clearCV s).trace = s.trace := rfl

/-! The fields after CLEAR (R165). -/

@[simp] theorem clearData_alg (s : State) : (clearData s).alg = s.alg := rfl
@[simp] theorem clearData_digits (s : State) : (clearData s).digits = s.digits := rfl
@[simp] theorem clearData_counter (s : State) : (clearData s).counter = s.counter := rfl
@[simp] theorem clearData_msg (s : State) : (clearData s).msg = State.reset.msg := rfl
@[simp] theorem clearData_msgv (s : State) : (clearData s).msgv = false := rfl
@[simp] theorem clearData_digest (s : State) : (clearData s).digest = State.reset.digest := rfl
@[simp] theorem clearData_dvalid (s : State) : (clearData s).dvalid = 0 := rfl
@[simp] theorem clearData_offset (s : State) : (clearData s).offset = 0 := rfl
@[simp] theorem clearData_tv (s : State) : (clearData s).tv = false := rfl
@[simp] theorem clearData_trunc (s : State) : (clearData s).trunc = 0 := rfl
@[simp] theorem clearData_value (s : State) : (clearData s).value = 0 := rfl
@[simp] theorem clearData_vv (s : State) : (clearData s).vv = false := rfl
@[simp] theorem clearData_vdigits (s : State) : (clearData s).vdigits = 0 := rfl
@[simp] theorem clearData_code (s : State) : (clearData s).code = State.reset.code := rfl
@[simp] theorem clearData_codelen (s : State) : (clearData s).codelen = 0 := rfl
@[simp] theorem clearData_cv (s : State) : (clearData s).cv = false := rfl
@[simp] theorem clearData_busy (s : State) : (clearData s).busy = s.busy := rfl
@[simp] theorem clearData_done (s : State) : (clearData s).done = s.done := rfl
@[simp] theorem clearData_err (s : State) : (clearData s).err = s.err := rfl
@[simp] theorem clearData_errcode (s : State) : (clearData s).errcode = s.errcode := rfl
@[simp] theorem clearData_lastop (s : State) : (clearData s).lastop = s.lastop := rfl
@[simp] theorem clearData_pend (s : State) : (clearData s).pend = s.pend := rfl
@[simp] theorem clearData_agenda (s : State) : (clearData s).agenda = s.agenda := rfl
@[simp] theorem clearData_trace (s : State) : (clearData s).trace = s.trace := rfl

/-! The fields after a write to CTRL. -/

@[simp] theorem writeCtrl_alg (v : Word) (s : State) : (writeCtrl v s).alg = v.extractLsb' 0 2 := rfl
@[simp] theorem writeCtrl_digits (v : Word) (s : State) : (writeCtrl v s).digits = v.extractLsb' 8 4 := rfl
@[simp] theorem writeCtrl_counter (v : Word) (s : State) : (writeCtrl v s).counter = s.counter := rfl
@[simp] theorem writeCtrl_msg (v : Word) (s : State) : (writeCtrl v s).msg = s.msg := rfl
@[simp] theorem writeCtrl_msgv (v : Word) (s : State) : (writeCtrl v s).msgv = s.msgv := rfl
@[simp] theorem writeCtrl_digest (v : Word) (s : State) : (writeCtrl v s).digest = s.digest := rfl
@[simp] theorem writeCtrl_dvalid (v : Word) (s : State) : (writeCtrl v s).dvalid = s.dvalid := rfl
@[simp] theorem writeCtrl_offset (v : Word) (s : State) : (writeCtrl v s).offset = s.offset := rfl
@[simp] theorem writeCtrl_tv (v : Word) (s : State) : (writeCtrl v s).tv = s.tv := rfl
@[simp] theorem writeCtrl_trunc (v : Word) (s : State) : (writeCtrl v s).trunc = s.trunc := rfl
@[simp] theorem writeCtrl_value (v : Word) (s : State) : (writeCtrl v s).value = s.value := rfl
@[simp] theorem writeCtrl_vv (v : Word) (s : State) : (writeCtrl v s).vv = s.vv := rfl
@[simp] theorem writeCtrl_vdigits (v : Word) (s : State) : (writeCtrl v s).vdigits = s.vdigits := rfl
@[simp] theorem writeCtrl_code (v : Word) (s : State) : (writeCtrl v s).code = s.code := rfl
@[simp] theorem writeCtrl_codelen (v : Word) (s : State) : (writeCtrl v s).codelen = s.codelen := rfl
@[simp] theorem writeCtrl_cv (v : Word) (s : State) : (writeCtrl v s).cv = s.cv := rfl
@[simp] theorem writeCtrl_busy (v : Word) (s : State) : (writeCtrl v s).busy = s.busy := rfl
@[simp] theorem writeCtrl_done (v : Word) (s : State) : (writeCtrl v s).done = s.done := rfl
@[simp] theorem writeCtrl_err (v : Word) (s : State) : (writeCtrl v s).err = s.err := rfl
@[simp] theorem writeCtrl_errcode (v : Word) (s : State) : (writeCtrl v s).errcode = s.errcode := rfl
@[simp] theorem writeCtrl_lastop (v : Word) (s : State) : (writeCtrl v s).lastop = s.lastop := rfl
@[simp] theorem writeCtrl_pend (v : Word) (s : State) : (writeCtrl v s).pend = s.pend := rfl
@[simp] theorem writeCtrl_agenda (v : Word) (s : State) : (writeCtrl v s).agenda = s.agenda := rfl
@[simp] theorem writeCtrl_trace (v : Word) (s : State) : (writeCtrl v s).trace = s.trace := rfl

/-! The fields after a write to COUNTER_HI. -/

@[simp] theorem writeCounterHi_alg (v : Word) (s : State) : (writeCounterHi v s).alg = s.alg := rfl
@[simp] theorem writeCounterHi_digits (v : Word) (s : State) : (writeCounterHi v s).digits = s.digits := rfl
@[simp] theorem writeCounterHi_counter (v : Word) (s : State) : (writeCounterHi v s).counter = v ++ s.counter.extractLsb' 0 32 := rfl
@[simp] theorem writeCounterHi_msg (v : Word) (s : State) : (writeCounterHi v s).msg = s.msg := rfl
@[simp] theorem writeCounterHi_msgv (v : Word) (s : State) : (writeCounterHi v s).msgv = s.msgv := rfl
@[simp] theorem writeCounterHi_digest (v : Word) (s : State) : (writeCounterHi v s).digest = s.digest := rfl
@[simp] theorem writeCounterHi_dvalid (v : Word) (s : State) : (writeCounterHi v s).dvalid = s.dvalid := rfl
@[simp] theorem writeCounterHi_offset (v : Word) (s : State) : (writeCounterHi v s).offset = s.offset := rfl
@[simp] theorem writeCounterHi_tv (v : Word) (s : State) : (writeCounterHi v s).tv = s.tv := rfl
@[simp] theorem writeCounterHi_trunc (v : Word) (s : State) : (writeCounterHi v s).trunc = s.trunc := rfl
@[simp] theorem writeCounterHi_value (v : Word) (s : State) : (writeCounterHi v s).value = s.value := rfl
@[simp] theorem writeCounterHi_vv (v : Word) (s : State) : (writeCounterHi v s).vv = s.vv := rfl
@[simp] theorem writeCounterHi_vdigits (v : Word) (s : State) : (writeCounterHi v s).vdigits = s.vdigits := rfl
@[simp] theorem writeCounterHi_code (v : Word) (s : State) : (writeCounterHi v s).code = s.code := rfl
@[simp] theorem writeCounterHi_codelen (v : Word) (s : State) : (writeCounterHi v s).codelen = s.codelen := rfl
@[simp] theorem writeCounterHi_cv (v : Word) (s : State) : (writeCounterHi v s).cv = s.cv := rfl
@[simp] theorem writeCounterHi_busy (v : Word) (s : State) : (writeCounterHi v s).busy = s.busy := rfl
@[simp] theorem writeCounterHi_done (v : Word) (s : State) : (writeCounterHi v s).done = s.done := rfl
@[simp] theorem writeCounterHi_err (v : Word) (s : State) : (writeCounterHi v s).err = s.err := rfl
@[simp] theorem writeCounterHi_errcode (v : Word) (s : State) : (writeCounterHi v s).errcode = s.errcode := rfl
@[simp] theorem writeCounterHi_lastop (v : Word) (s : State) : (writeCounterHi v s).lastop = s.lastop := rfl
@[simp] theorem writeCounterHi_pend (v : Word) (s : State) : (writeCounterHi v s).pend = s.pend := rfl
@[simp] theorem writeCounterHi_agenda (v : Word) (s : State) : (writeCounterHi v s).agenda = s.agenda := rfl
@[simp] theorem writeCounterHi_trace (v : Word) (s : State) : (writeCounterHi v s).trace = s.trace := rfl

/-! The fields after a write to COUNTER_LO. -/

@[simp] theorem writeCounterLo_alg (v : Word) (s : State) : (writeCounterLo v s).alg = s.alg := rfl
@[simp] theorem writeCounterLo_digits (v : Word) (s : State) : (writeCounterLo v s).digits = s.digits := rfl
@[simp] theorem writeCounterLo_counter (v : Word) (s : State) : (writeCounterLo v s).counter = s.counter.extractLsb' 32 32 ++ v := rfl
@[simp] theorem writeCounterLo_msg (v : Word) (s : State) : (writeCounterLo v s).msg = s.msg := rfl
@[simp] theorem writeCounterLo_msgv (v : Word) (s : State) : (writeCounterLo v s).msgv = s.msgv := rfl
@[simp] theorem writeCounterLo_digest (v : Word) (s : State) : (writeCounterLo v s).digest = s.digest := rfl
@[simp] theorem writeCounterLo_dvalid (v : Word) (s : State) : (writeCounterLo v s).dvalid = s.dvalid := rfl
@[simp] theorem writeCounterLo_offset (v : Word) (s : State) : (writeCounterLo v s).offset = s.offset := rfl
@[simp] theorem writeCounterLo_tv (v : Word) (s : State) : (writeCounterLo v s).tv = s.tv := rfl
@[simp] theorem writeCounterLo_trunc (v : Word) (s : State) : (writeCounterLo v s).trunc = s.trunc := rfl
@[simp] theorem writeCounterLo_value (v : Word) (s : State) : (writeCounterLo v s).value = s.value := rfl
@[simp] theorem writeCounterLo_vv (v : Word) (s : State) : (writeCounterLo v s).vv = s.vv := rfl
@[simp] theorem writeCounterLo_vdigits (v : Word) (s : State) : (writeCounterLo v s).vdigits = s.vdigits := rfl
@[simp] theorem writeCounterLo_code (v : Word) (s : State) : (writeCounterLo v s).code = s.code := rfl
@[simp] theorem writeCounterLo_codelen (v : Word) (s : State) : (writeCounterLo v s).codelen = s.codelen := rfl
@[simp] theorem writeCounterLo_cv (v : Word) (s : State) : (writeCounterLo v s).cv = s.cv := rfl
@[simp] theorem writeCounterLo_busy (v : Word) (s : State) : (writeCounterLo v s).busy = s.busy := rfl
@[simp] theorem writeCounterLo_done (v : Word) (s : State) : (writeCounterLo v s).done = s.done := rfl
@[simp] theorem writeCounterLo_err (v : Word) (s : State) : (writeCounterLo v s).err = s.err := rfl
@[simp] theorem writeCounterLo_errcode (v : Word) (s : State) : (writeCounterLo v s).errcode = s.errcode := rfl
@[simp] theorem writeCounterLo_lastop (v : Word) (s : State) : (writeCounterLo v s).lastop = s.lastop := rfl
@[simp] theorem writeCounterLo_pend (v : Word) (s : State) : (writeCounterLo v s).pend = s.pend := rfl
@[simp] theorem writeCounterLo_agenda (v : Word) (s : State) : (writeCounterLo v s).agenda = s.agenda := rfl
@[simp] theorem writeCounterLo_trace (v : Word) (s : State) : (writeCounterLo v s).trace = s.trace := rfl

/-! The fields after a write to a digest word. -/

@[simp] theorem writeDigest_alg (k : Fin 16) (v : Word) (s : State) : (writeDigest k v s).alg = s.alg := rfl
@[simp] theorem writeDigest_digits (k : Fin 16) (v : Word) (s : State) : (writeDigest k v s).digits = s.digits := rfl
@[simp] theorem writeDigest_counter (k : Fin 16) (v : Word) (s : State) : (writeDigest k v s).counter = s.counter := rfl
@[simp] theorem writeDigest_msg (k : Fin 16) (v : Word) (s : State) : (writeDigest k v s).msg = s.msg := rfl
@[simp] theorem writeDigest_msgv (k : Fin 16) (v : Word) (s : State) : (writeDigest k v s).msgv = s.msgv := rfl
@[simp] theorem writeDigest_digest (k : Fin 16) (v : Word) (s : State) : (writeDigest k v s).digest = s.digest.set k.val v := rfl
@[simp] theorem writeDigest_dvalid (k : Fin 16) (v : Word) (s : State) : (writeDigest k v s).dvalid = s.dvalid ||| BitVec.twoPow 16 k.val := rfl
@[simp] theorem writeDigest_offset (k : Fin 16) (v : Word) (s : State) : (writeDigest k v s).offset = s.offset := rfl
@[simp] theorem writeDigest_tv (k : Fin 16) (v : Word) (s : State) : (writeDigest k v s).tv = s.tv := rfl
@[simp] theorem writeDigest_trunc (k : Fin 16) (v : Word) (s : State) : (writeDigest k v s).trunc = s.trunc := rfl
@[simp] theorem writeDigest_value (k : Fin 16) (v : Word) (s : State) : (writeDigest k v s).value = s.value := rfl
@[simp] theorem writeDigest_vv (k : Fin 16) (v : Word) (s : State) : (writeDigest k v s).vv = s.vv := rfl
@[simp] theorem writeDigest_vdigits (k : Fin 16) (v : Word) (s : State) : (writeDigest k v s).vdigits = s.vdigits := rfl
@[simp] theorem writeDigest_code (k : Fin 16) (v : Word) (s : State) : (writeDigest k v s).code = s.code := rfl
@[simp] theorem writeDigest_codelen (k : Fin 16) (v : Word) (s : State) : (writeDigest k v s).codelen = s.codelen := rfl
@[simp] theorem writeDigest_cv (k : Fin 16) (v : Word) (s : State) : (writeDigest k v s).cv = s.cv := rfl
@[simp] theorem writeDigest_busy (k : Fin 16) (v : Word) (s : State) : (writeDigest k v s).busy = s.busy := rfl
@[simp] theorem writeDigest_done (k : Fin 16) (v : Word) (s : State) : (writeDigest k v s).done = s.done := rfl
@[simp] theorem writeDigest_err (k : Fin 16) (v : Word) (s : State) : (writeDigest k v s).err = s.err := rfl
@[simp] theorem writeDigest_errcode (k : Fin 16) (v : Word) (s : State) : (writeDigest k v s).errcode = s.errcode := rfl
@[simp] theorem writeDigest_lastop (k : Fin 16) (v : Word) (s : State) : (writeDigest k v s).lastop = s.lastop := rfl
@[simp] theorem writeDigest_pend (k : Fin 16) (v : Word) (s : State) : (writeDigest k v s).pend = s.pend := rfl
@[simp] theorem writeDigest_agenda (k : Fin 16) (v : Word) (s : State) : (writeDigest k v s).agenda = s.agenda := rfl
@[simp] theorem writeDigest_trace (k : Fin 16) (v : Word) (s : State) : (writeDigest k v s).trace = s.trace := rfl

/-! The fields after an observation. -/

@[simp] theorem record_alg (o : Observation) (s : State) : (record o s).alg = s.alg := rfl
@[simp] theorem record_digits (o : Observation) (s : State) : (record o s).digits = s.digits := rfl
@[simp] theorem record_counter (o : Observation) (s : State) : (record o s).counter = s.counter := rfl
@[simp] theorem record_msg (o : Observation) (s : State) : (record o s).msg = s.msg := rfl
@[simp] theorem record_msgv (o : Observation) (s : State) : (record o s).msgv = s.msgv := rfl
@[simp] theorem record_digest (o : Observation) (s : State) : (record o s).digest = s.digest := rfl
@[simp] theorem record_dvalid (o : Observation) (s : State) : (record o s).dvalid = s.dvalid := rfl
@[simp] theorem record_offset (o : Observation) (s : State) : (record o s).offset = s.offset := rfl
@[simp] theorem record_tv (o : Observation) (s : State) : (record o s).tv = s.tv := rfl
@[simp] theorem record_trunc (o : Observation) (s : State) : (record o s).trunc = s.trunc := rfl
@[simp] theorem record_value (o : Observation) (s : State) : (record o s).value = s.value := rfl
@[simp] theorem record_vv (o : Observation) (s : State) : (record o s).vv = s.vv := rfl
@[simp] theorem record_vdigits (o : Observation) (s : State) : (record o s).vdigits = s.vdigits := rfl
@[simp] theorem record_code (o : Observation) (s : State) : (record o s).code = s.code := rfl
@[simp] theorem record_codelen (o : Observation) (s : State) : (record o s).codelen = s.codelen := rfl
@[simp] theorem record_cv (o : Observation) (s : State) : (record o s).cv = s.cv := rfl
@[simp] theorem record_busy (o : Observation) (s : State) : (record o s).busy = s.busy := rfl
@[simp] theorem record_done (o : Observation) (s : State) : (record o s).done = s.done := rfl
@[simp] theorem record_err (o : Observation) (s : State) : (record o s).err = s.err := rfl
@[simp] theorem record_errcode (o : Observation) (s : State) : (record o s).errcode = s.errcode := rfl
@[simp] theorem record_lastop (o : Observation) (s : State) : (record o s).lastop = s.lastop := rfl
@[simp] theorem record_pend (o : Observation) (s : State) : (record o s).pend = s.pend := rfl
@[simp] theorem record_agenda (o : Observation) (s : State) : (record o s).agenda = s.agenda := rfl
@[simp] theorem record_trace (o : Observation) (s : State) : (record o s).trace = o :: s.trace := rfl

/-! The fields after the agenda. -/

@[simp] theorem setAgenda_alg (es : List Event) (s : State) : (setAgenda es s).alg = s.alg := rfl
@[simp] theorem setAgenda_digits (es : List Event) (s : State) : (setAgenda es s).digits = s.digits := rfl
@[simp] theorem setAgenda_counter (es : List Event) (s : State) : (setAgenda es s).counter = s.counter := rfl
@[simp] theorem setAgenda_msg (es : List Event) (s : State) : (setAgenda es s).msg = s.msg := rfl
@[simp] theorem setAgenda_msgv (es : List Event) (s : State) : (setAgenda es s).msgv = s.msgv := rfl
@[simp] theorem setAgenda_digest (es : List Event) (s : State) : (setAgenda es s).digest = s.digest := rfl
@[simp] theorem setAgenda_dvalid (es : List Event) (s : State) : (setAgenda es s).dvalid = s.dvalid := rfl
@[simp] theorem setAgenda_offset (es : List Event) (s : State) : (setAgenda es s).offset = s.offset := rfl
@[simp] theorem setAgenda_tv (es : List Event) (s : State) : (setAgenda es s).tv = s.tv := rfl
@[simp] theorem setAgenda_trunc (es : List Event) (s : State) : (setAgenda es s).trunc = s.trunc := rfl
@[simp] theorem setAgenda_value (es : List Event) (s : State) : (setAgenda es s).value = s.value := rfl
@[simp] theorem setAgenda_vv (es : List Event) (s : State) : (setAgenda es s).vv = s.vv := rfl
@[simp] theorem setAgenda_vdigits (es : List Event) (s : State) : (setAgenda es s).vdigits = s.vdigits := rfl
@[simp] theorem setAgenda_code (es : List Event) (s : State) : (setAgenda es s).code = s.code := rfl
@[simp] theorem setAgenda_codelen (es : List Event) (s : State) : (setAgenda es s).codelen = s.codelen := rfl
@[simp] theorem setAgenda_cv (es : List Event) (s : State) : (setAgenda es s).cv = s.cv := rfl
@[simp] theorem setAgenda_busy (es : List Event) (s : State) : (setAgenda es s).busy = s.busy := rfl
@[simp] theorem setAgenda_done (es : List Event) (s : State) : (setAgenda es s).done = s.done := rfl
@[simp] theorem setAgenda_err (es : List Event) (s : State) : (setAgenda es s).err = s.err := rfl
@[simp] theorem setAgenda_errcode (es : List Event) (s : State) : (setAgenda es s).errcode = s.errcode := rfl
@[simp] theorem setAgenda_lastop (es : List Event) (s : State) : (setAgenda es s).lastop = s.lastop := rfl
@[simp] theorem setAgenda_pend (es : List Event) (s : State) : (setAgenda es s).pend = s.pend := rfl
@[simp] theorem setAgenda_agenda (es : List Event) (s : State) : (setAgenda es s).agenda = es := rfl
@[simp] theorem setAgenda_trace (es : List Event) (s : State) : (setAgenda es s).trace = s.trace := rfl

/-! The fields after a reset (R200). -/

@[simp] theorem resetBlock_alg (s : State) : (resetBlock s).alg = State.reset.alg := rfl
@[simp] theorem resetBlock_digits (s : State) : (resetBlock s).digits = State.reset.digits := rfl
@[simp] theorem resetBlock_counter (s : State) : (resetBlock s).counter = State.reset.counter := rfl
@[simp] theorem resetBlock_msg (s : State) : (resetBlock s).msg = State.reset.msg := rfl
@[simp] theorem resetBlock_msgv (s : State) : (resetBlock s).msgv = State.reset.msgv := rfl
@[simp] theorem resetBlock_digest (s : State) : (resetBlock s).digest = State.reset.digest := rfl
@[simp] theorem resetBlock_dvalid (s : State) : (resetBlock s).dvalid = State.reset.dvalid := rfl
@[simp] theorem resetBlock_offset (s : State) : (resetBlock s).offset = State.reset.offset := rfl
@[simp] theorem resetBlock_tv (s : State) : (resetBlock s).tv = State.reset.tv := rfl
@[simp] theorem resetBlock_trunc (s : State) : (resetBlock s).trunc = State.reset.trunc := rfl
@[simp] theorem resetBlock_value (s : State) : (resetBlock s).value = State.reset.value := rfl
@[simp] theorem resetBlock_vv (s : State) : (resetBlock s).vv = State.reset.vv := rfl
@[simp] theorem resetBlock_vdigits (s : State) : (resetBlock s).vdigits = State.reset.vdigits := rfl
@[simp] theorem resetBlock_code (s : State) : (resetBlock s).code = State.reset.code := rfl
@[simp] theorem resetBlock_codelen (s : State) : (resetBlock s).codelen = State.reset.codelen := rfl
@[simp] theorem resetBlock_cv (s : State) : (resetBlock s).cv = State.reset.cv := rfl
@[simp] theorem resetBlock_busy (s : State) : (resetBlock s).busy = State.reset.busy := rfl
@[simp] theorem resetBlock_done (s : State) : (resetBlock s).done = State.reset.done := rfl
@[simp] theorem resetBlock_err (s : State) : (resetBlock s).err = State.reset.err := rfl
@[simp] theorem resetBlock_errcode (s : State) : (resetBlock s).errcode = State.reset.errcode := rfl
@[simp] theorem resetBlock_lastop (s : State) : (resetBlock s).lastop = State.reset.lastop := rfl
@[simp] theorem resetBlock_pend (s : State) : (resetBlock s).pend = State.reset.pend := rfl
@[simp] theorem resetBlock_agenda (s : State) : (resetBlock s).agenda = s.agenda := rfl
@[simp] theorem resetBlock_trace (s : State) : (resetBlock s).trace = s.trace := rfl

/-! The fields after raise CmdError(e) (R171). -/

@[simp] theorem raiseError_alg (e : CmdError) (s : State) : (raiseError e s).alg = s.alg := rfl
@[simp] theorem raiseError_digits (e : CmdError) (s : State) : (raiseError e s).digits = s.digits := rfl
@[simp] theorem raiseError_counter (e : CmdError) (s : State) : (raiseError e s).counter = s.counter := rfl
@[simp] theorem raiseError_msg (e : CmdError) (s : State) : (raiseError e s).msg = s.msg := rfl
@[simp] theorem raiseError_msgv (e : CmdError) (s : State) : (raiseError e s).msgv = s.msgv := rfl
@[simp] theorem raiseError_digest (e : CmdError) (s : State) : (raiseError e s).digest = s.digest := rfl
@[simp] theorem raiseError_dvalid (e : CmdError) (s : State) : (raiseError e s).dvalid = s.dvalid := rfl
@[simp] theorem raiseError_offset (e : CmdError) (s : State) : (raiseError e s).offset = s.offset := rfl
@[simp] theorem raiseError_tv (e : CmdError) (s : State) : (raiseError e s).tv = s.tv := rfl
@[simp] theorem raiseError_trunc (e : CmdError) (s : State) : (raiseError e s).trunc = s.trunc := rfl
@[simp] theorem raiseError_value (e : CmdError) (s : State) : (raiseError e s).value = s.value := rfl
@[simp] theorem raiseError_vv (e : CmdError) (s : State) : (raiseError e s).vv = s.vv := rfl
@[simp] theorem raiseError_vdigits (e : CmdError) (s : State) : (raiseError e s).vdigits = s.vdigits := rfl
@[simp] theorem raiseError_code (e : CmdError) (s : State) : (raiseError e s).code = s.code := rfl
@[simp] theorem raiseError_codelen (e : CmdError) (s : State) : (raiseError e s).codelen = s.codelen := rfl
@[simp] theorem raiseError_cv (e : CmdError) (s : State) : (raiseError e s).cv = s.cv := rfl
@[simp] theorem raiseError_busy (e : CmdError) (s : State) : (raiseError e s).busy = false := rfl
@[simp] theorem raiseError_done (e : CmdError) (s : State) : (raiseError e s).done = true := rfl
@[simp] theorem raiseError_err (e : CmdError) (s : State) : (raiseError e s).err = (errorCode e != 0) := rfl
@[simp] theorem raiseError_errcode (e : CmdError) (s : State) : (raiseError e s).errcode = errorCode e := rfl
@[simp] theorem raiseError_lastop (e : CmdError) (s : State) : (raiseError e s).lastop = s.lastop := rfl
@[simp] theorem raiseError_pend (e : CmdError) (s : State) : (raiseError e s).pend = s.pend := rfl
@[simp] theorem raiseError_agenda (e : CmdError) (s : State) : (raiseError e s).agenda = s.agenda := rfl
@[simp] theorem raiseError_trace (e : CmdError) (s : State) : (raiseError e s).trace = s.trace := rfl

/-! The fields after a command placed. -/

@[simp] theorem placeCommand_alg (w : Word) (s : State) : (placeCommand w s).alg = s.alg := rfl
@[simp] theorem placeCommand_digits (w : Word) (s : State) : (placeCommand w s).digits = s.digits := rfl
@[simp] theorem placeCommand_counter (w : Word) (s : State) : (placeCommand w s).counter = s.counter := rfl
@[simp] theorem placeCommand_msg (w : Word) (s : State) : (placeCommand w s).msg = s.msg := rfl
@[simp] theorem placeCommand_msgv (w : Word) (s : State) : (placeCommand w s).msgv = s.msgv := rfl
@[simp] theorem placeCommand_digest (w : Word) (s : State) : (placeCommand w s).digest = s.digest := rfl
@[simp] theorem placeCommand_dvalid (w : Word) (s : State) : (placeCommand w s).dvalid = s.dvalid := rfl
@[simp] theorem placeCommand_offset (w : Word) (s : State) : (placeCommand w s).offset = s.offset := rfl
@[simp] theorem placeCommand_tv (w : Word) (s : State) : (placeCommand w s).tv = s.tv := rfl
@[simp] theorem placeCommand_trunc (w : Word) (s : State) : (placeCommand w s).trunc = s.trunc := rfl
@[simp] theorem placeCommand_value (w : Word) (s : State) : (placeCommand w s).value = s.value := rfl
@[simp] theorem placeCommand_vv (w : Word) (s : State) : (placeCommand w s).vv = s.vv := rfl
@[simp] theorem placeCommand_vdigits (w : Word) (s : State) : (placeCommand w s).vdigits = s.vdigits := rfl
@[simp] theorem placeCommand_code (w : Word) (s : State) : (placeCommand w s).code = s.code := rfl
@[simp] theorem placeCommand_codelen (w : Word) (s : State) : (placeCommand w s).codelen = s.codelen := rfl
@[simp] theorem placeCommand_cv (w : Word) (s : State) : (placeCommand w s).cv = s.cv := rfl
@[simp] theorem placeCommand_busy (w : Word) (s : State) : (placeCommand w s).busy = true := rfl
@[simp] theorem placeCommand_done (w : Word) (s : State) : (placeCommand w s).done = false := rfl
@[simp] theorem placeCommand_err (w : Word) (s : State) : (placeCommand w s).err = false := rfl
@[simp] theorem placeCommand_errcode (w : Word) (s : State) : (placeCommand w s).errcode = 0 := rfl
@[simp] theorem placeCommand_lastop (w : Word) (s : State) : (placeCommand w s).lastop = w.extractLsb' 0 4 := rfl
@[simp] theorem placeCommand_pend (w : Word) (s : State) : (placeCommand w s).pend = w := rfl
@[simp] theorem placeCommand_agenda (w : Word) (s : State) : (placeCommand w s).agenda = .engine :: s.agenda := rfl
@[simp] theorem placeCommand_trace (w : Word) (s : State) : (placeCommand w s).trace = s.trace := rfl

end Sys2Proof.Machine
end

