-- ==== Sys2Proof/Laws/Ops.lean ====
section
/-! SUPPORT. What the operations over the register window can do, said once. -/

namespace Sys2Proof.Machine

/-- The register map reads back: the register at a register's offset is that register (spec/10_state.md R22). -/
@[simp] theorem regAt_regOffset (r : Reg) : regAt (regOffset r) = some r := by
  cases r
  case digestW k => revert k; decide
  all_goals rfl

/-- Every register's offset is a multiple of 4 below 0x80 (spec/20_memory.md R62). -/
theorem regOffset_aligned (r : Reg) : (regOffset r).toNat % 4 = 0 ∧ (regOffset r).toNat < 0x80 := by
  cases r
  case digestW k => revert k; decide
  all_goals decide

/-- From 0x80 on nothing is mapped (R62, R64). -/
theorem regAt_eq_none_iff (off : BitVec 8) : regAt off = none ↔ 0x80 ≤ off.toNat := by
  revert off; decide +revert

/-- An aligned mapped offset is its register's offset. -/
theorem regOffset_of_regAt {off : BitVec 8} {r : Reg} (ha : off.toNat % 4 = 0) (h : regAt off = some r) :
    regOffset r = off := by
  have key : ∀ o : BitVec 8, o.toNat % 4 = 0 → ((regAt o).map regOffset).getD o = o := by decide
  simpa [h] using key off ha

/-- Only a word access at a multiple of 4 is legal (R63). -/
theorem legalWidth_iff (t : Txn) : legalWidth t = true ↔ t.size = .word ∧ t.off.toNat % 4 = 0 := by
  simp [legalWidth]

@[simp] theorem legalWidth_regOffset (a : Access) (r : Reg) : legalWidth ⟨a, regOffset r, .word⟩ = true := by
  simp [legalWidth_iff, (regOffset_aligned r).1]

/-- The register a transaction names: a word access at the register's offset (R62, R63). -/
theorem target_eq_some_iff {t : Txn} {r : Reg} : target t = some r ↔ t.size = .word ∧ regOffset r = t.off := by
  obtain ⟨a, off, size⟩ := t
  simp only [target]
  constructor
  · intro h
    split at h
    · rename_i hw
      obtain ⟨hs, ha⟩ := (legalWidth_iff _).mp hw
      exact ⟨hs, regOffset_of_regAt ha h⟩
    · cases h
  · rintro ⟨rfl, rfl⟩
    simp

/-- The writable registers and what a write to each does (R66, R68). -/
theorem writeReg_eq_some {r : Reg} {v : Word} {s s' : State} (h : writeReg r v s = some s') :
    (r = .ctrl ∧ s' = writeCtrl v s) ∨ (r = .cmd ∧ s' = accept v s) ∨ (r = .counterHi ∧ s' = writeCounterHi v s) ∨
      (r = .counterLo ∧ s' = writeCounterLo v s) ∨ ∃ k, r = .digestW k ∧ s' = writeDigest k v s := by
  cases r <;> simp_all [writeReg]

/-- COUNTER after a write to its high half, as a number (R68). -/
theorem writeCounterHi_toNat (v : Word) (s : State) :
    (writeCounterHi v s).counter.toNat = v.toNat * 2 ^ 32 + s.counter.toNat % 2 ^ 32 := by
  have h := append_toNat v (s.counter.extractLsb' 0 32)
  simpa using h

/-- COUNTER after a write to its low half, as a number (R68). -/
theorem writeCounterLo_toNat (v : Word) (s : State) :
    (writeCounterLo v s).counter.toNat = s.counter.toNat / 2 ^ 32 * 2 ^ 32 + v.toNat := by
  have h := append_toNat (s.counter.extractLsb' 32 32) v
  have hc := s.counter.isLt
  rw [BitVec.extractLsb'_toNat, Nat.shiftRight_eq_div_pow, Nat.mod_eq_of_lt (by omega)] at h
  exact h

/-- The COUNTER registers as numbers (spec/10_state.md R36). -/
theorem readReg_counterHi_toNat (s : State) : (readReg .counterHi s).toNat = s.counter.toNat / 2 ^ 32 := by
  have h := s.counter.isLt
  rw [readReg, BitVec.extractLsb'_toNat, Nat.shiftRight_eq_div_pow, Nat.mod_eq_of_lt (by omega)]

theorem readReg_counterLo_toNat (s : State) : (readReg .counterLo s).toNat = s.counter.toNat % 2 ^ 32 := by
  rw [readReg, BitVec.extractLsb'_toNat, Nat.shiftRight_zero]

/-- What CTRL keeps of a word: ALG and DIGITS, the reserved bits dropped (spec/10_state.md R24, R27). -/
theorem ctrl_image (v : Word) :
    (0#20 ++ v.extractLsb' 8 4 ++ 0#6 ++ v.extractLsb' 0 2 : Word) = v &&& 0x00000F03#32 := by
  apply BitVec.eq_of_getLsbD_eq
  intro i hi
  have hz : ∀ n, (0#n).getLsbD = fun _ => false := by intro n; funext k; simp
  have hm : (0x00000F03#32).getLsbD i = decide (i < 2 ∨ (8 ≤ i ∧ i < 12)) := by interval_cases i <;> rfl
  simp only [BitVec.getLsbD_append, BitVec.getLsbD_extractLsb', hz, BitVec.getLsbD_and, hm]
  interval_cases i <;> simp

/-- Bit 0 of STATUS is BUSY (spec/10_state.md R29). -/
theorem status_busy (s : State) : (readReg .status s).getLsbD 0 = s.busy := by
  rw [readReg, statusWord, BitVec.getLsbD_append]
  simp

/-- Everything a transaction can do: an ERROR that leaves the state, a read that leaves the state, or an idle write with the
register's effect (R63-R68). -/
theorem serve_cases (t : Txn) (s : State) :
    (∃ k, serve t s = (s, .error k)) ∨
      (∃ r, t.access = .read ∧ t.size = .word ∧ regOffset r = t.off ∧ serve t s = (s, .ok (readReg r s))) ∨
      ∃ r v s', t.access = .write v ∧ t.size = .word ∧ regOffset r = t.off ∧ s.busy = false ∧
        writeReg r v s = some s' ∧ serve t s = (s', .ok 0) := by
  obtain ⟨a, off, size⟩ := t
  by_cases hw : legalWidth ⟨a, off, size⟩ = true
  case neg => exact .inl ⟨.width, by simp [serve, hw]⟩
  obtain ⟨hsz, hal⟩ := (legalWidth_iff _).mp hw
  cases hr : regAt off with
  | none => exact .inl ⟨.unmapped, by simp [serve, hw, hr]⟩
  | some r =>
    have ho := regOffset_of_regAt hal hr
    cases a with
    | read => exact .inr (.inl ⟨r, rfl, hsz, ho, by simp [serve, hw, hr]⟩)
    | write v =>
      cases hv : writeReg r v s with
      | none => exact .inl ⟨.readOnly, by simp [serve, hw, hr, hv]⟩
      | some s' =>
        cases hb : s.busy with
        | true => exact .inl ⟨.busy, by simp [serve, hw, hr, hv, hb]⟩
        | false => exact .inr (.inr ⟨r, v, s', rfl, hsz, ho, rfl, hv, by simp [serve, hw, hr, hv, hb]⟩)

/-- A read of a register answers its value (R65). -/
@[simp] theorem serve_read (r : Reg) (s : State) : serve ⟨.read, regOffset r, .word⟩ s = (s, .ok (readReg r s)) := by
  simp [serve]

/-- A write to a writable register of an idle block has the register's effect (R68). -/
theorem serve_write {r : Reg} {v : Word} {s s' : State} (hb : s.busy = false) (h : writeReg r v s = some s') :
    serve ⟨.write v, regOffset r, .word⟩ s = (s', .ok 0) := by
  simp [serve, h, hb]

/-- While a command is pending a transaction leaves the state (spec/10_state.md R46). -/
theorem serve_of_busy {s : State} (hb : s.busy = true) (t : Txn) : (serve t s).1 = s := by
  rcases serve_cases t s with ⟨_, h⟩ | ⟨_, _, _, _, h⟩ | ⟨_, _, _, _, _, _, h, _⟩
  · rw [h]
  · rw [h]
  · simp [hb] at h

/-- A transaction at an address inside the window is at its distance from the base (R60). -/
theorem route_inside (base : Nat) (x : SysTxn) (off : BitVec 8) (h : x.addr = base + off.toNat) :
    route base x = some ⟨x.access, off, x.size⟩ := by
  have ho := off.isLt
  rw [route, if_pos (by omega), h]
  simp

/-- A transaction outside the window does not reach the block (R60). -/
theorem route_outside (base : Nat) (x : SysTxn) (h : x.addr < base ∨ base + 0xFF < x.addr) : route base x = none := by
  rw [route, if_neg (by omega)]

/-- The error codes are 1 to 6 (spec/60_exceptions.md R170). -/
theorem errorCode_range (e : CmdError) : errorCode e ≠ 0 ∧ (errorCode e).toNat ≤ 6 := by cases e <;> decide

end Sys2Proof.Machine
end

