-- ==== Sys2Proof/Laws/Exec.lean ====
section
/-! SUPPORT. Everything each command can do, one inversion lemma per command. -/

namespace Sys2Proof.Machine

theorem execNop_eq (s : State) : exec .nop s = .next (complete 0 s) := rfl

theorem execEncode_eq (s : State) : exec .encode s = .next (complete 0 (setMsg (encodeCounter s.counter) s)) := rfl

theorem execClear_eq (s : State) : exec .clear s = .next (complete 0 (clearData s)) := rfl

/-- TRUNCATE fails with one of its two codes or truncates (R121). -/
theorem execTruncate_cases (s : State) :
    (algOf s.alg = none ∧ exec .truncate s = .next (raiseError .invalidAlgorithm s)) ∨
      ∃ a, algOf s.alg = some a ∧
        ((digestComplete a s.dvalid = false ∧ exec .truncate s = .next (raiseError .digestIncomplete s)) ∨
          (digestComplete a s.dvalid = true ∧ exec .truncate s = .next (complete 0 (clearCV (clearVV
            (setTrunc (truncOffset a s.digest) (truncValue s.digest (truncOffset a s.digest)) s)))))) := by
  cases h : algOf s.alg with
  | none => exact .inl ⟨rfl, by simp [exec, execTruncate, h]⟩
  | some a =>
    refine .inr ⟨a, rfl, ?_⟩
    cases hd : digestComplete a s.dvalid with
    | false => exact .inl ⟨rfl, by simp [exec, execTruncate, h, hd]⟩
    | true => exact .inr ⟨rfl, by simp [exec, execTruncate, h, hd]⟩

/-- REDUCE fails with one of its two codes or reduces (R131). -/
theorem execReduce_cases (s : State) :
    (digitsLegal s.digits = false ∧ exec .reduce s = .next (raiseError .unsupportedDigits s)) ∨
      (digitsLegal s.digits = true ∧ s.tv = false ∧ exec .reduce s = .next (raiseError .noTruncatedValue s)) ∨
      (digitsLegal s.digits = true ∧ s.tv = true ∧
        exec .reduce s = .next (complete 0 (clearCV (setValue (reduceMod s.trunc s.digits) s.digits s)))) := by
  cases h : digitsLegal s.digits <;> cases ht : s.tv <;> simp [exec, execReduce, h, ht]

/-- FORMAT fails with its code or formats (R141). -/
theorem execFormat_cases (s : State) :
    (s.vv = false ∧ exec .format s = .next (raiseError .noReducedValue s)) ∨
      (s.vv = true ∧ exec .format s = .next (complete 0 (setCode (formatCode s.value s.vdigits) s.vdigits s))) := by
  cases h : s.vv <;> simp [exec, execFormat, h]

/-- GENERATE fails with one of its three codes or runs all stages (R151). -/
theorem execGenerate_cases (s : State) :
    (algOf s.alg = none ∧ exec .generate s = .next (raiseError .invalidAlgorithm s)) ∨
      ∃ a, algOf s.alg = some a ∧
        ((digitsLegal s.digits = false ∧ exec .generate s = .next (raiseError .unsupportedDigits s)) ∨
          (digitsLegal s.digits = true ∧ digestComplete a s.dvalid = false ∧
            exec .generate s = .next (raiseError .digestIncomplete s)) ∨
          (digitsLegal s.digits = true ∧ digestComplete a s.dvalid = true ∧
            exec .generate s = .next (complete 0 (setCode
              (formatCode (reduceMod (truncValue s.digest (truncOffset a s.digest)) s.digits) s.digits) s.digits
              (setValue (reduceMod (truncValue s.digest (truncOffset a s.digest)) s.digits) s.digits
                (setTrunc (truncOffset a s.digest) (truncValue s.digest (truncOffset a s.digest)) s)))))) := by
  cases h : algOf s.alg with
  | none => exact .inl ⟨rfl, by simp [exec, execGenerate, h]⟩
  | some a =>
    refine .inr ⟨a, rfl, ?_⟩
    cases hn : digitsLegal s.digits <;> cases hd : digestComplete a s.dvalid <;> simp [exec, execGenerate, h, hn, hd]

/-- A command fails, changing nothing before its completion, or succeeds with code 0, keeping CTRL, COUNTER, PEND, LASTOP and the
model's own fields (spec/60_exceptions.md R178, spec/30_encoding.md R93). -/
theorem exec_fails_or_succeeds (i : Instr) (s : State) :
    (∃ e, exec i s = .next (raiseError e s)) ∨
      ∃ u, exec i s = .next (complete 0 u) ∧ u.alg = s.alg ∧ u.digits = s.digits ∧ u.counter = s.counter ∧
        u.pend = s.pend ∧ u.lastop = s.lastop ∧ u.agenda = s.agenda ∧ u.trace = s.trace := by
  cases i with
  | nop => exact .inr ⟨_, execNop_eq s, rfl, rfl, rfl, rfl, rfl, rfl, rfl⟩
  | encode => exact .inr ⟨_, execEncode_eq s, rfl, rfl, rfl, rfl, rfl, rfl, rfl⟩
  | truncate =>
    rcases execTruncate_cases s with ⟨_, h⟩ | ⟨_, _, ⟨_, h⟩ | ⟨_, h⟩⟩
    · exact .inl ⟨_, h⟩
    · exact .inl ⟨_, h⟩
    · exact .inr ⟨_, h, rfl, rfl, rfl, rfl, rfl, rfl, rfl⟩
  | reduce =>
    rcases execReduce_cases s with ⟨_, h⟩ | ⟨_, _, h⟩ | ⟨_, _, h⟩
    · exact .inl ⟨_, h⟩
    · exact .inl ⟨_, h⟩
    · exact .inr ⟨_, h, rfl, rfl, rfl, rfl, rfl, rfl, rfl⟩
  | format =>
    rcases execFormat_cases s with ⟨_, h⟩ | ⟨_, h⟩
    · exact .inl ⟨_, h⟩
    · exact .inr ⟨_, h, rfl, rfl, rfl, rfl, rfl, rfl, rfl⟩
  | generate =>
    rcases execGenerate_cases s with ⟨_, h⟩ | ⟨_, _, ⟨_, h⟩ | ⟨_, _, h⟩ | ⟨_, _, h⟩⟩
    · exact .inl ⟨_, h⟩
    · exact .inl ⟨_, h⟩
    · exact .inl ⟨_, h⟩
    · exact .inr ⟨_, h, rfl, rfl, rfl, rfl, rfl, rfl, rfl⟩
  | clear => exact .inr ⟨_, execClear_eq s, rfl, rfl, rfl, rfl, rfl, rfl, rfl⟩

end Sys2Proof.Machine
end

