-- ==== Sys2Proof/Laws/HostProgram.lean ====
section
/-! SUPPORT. What SETDIG sends: how many words, and which byte stands where in them (spec/30_encoding.md R98). -/

namespace Sys2Proof.Machine

/-- BE32 keeps byte j at bits 31-8j down to 24-8j (spec/20_memory.md R70). -/
theorem be32_byte (b : Fin 4 → Byte) (j : Fin 4) :
    (be32 (b 0) (b 1) (b 2) (b 3)).extractLsb' (24 - 8 * j.val) 8 = b j := by
  apply BitVec.eq_of_toNat_eq
  rw [BitVec.extractLsb'_toNat, be32_toNat, Nat.shiftRight_eq_div_pow]
  have h0 := (b 0).isLt
  have h1 := (b 1).isLt
  have h2 := (b 2).isLt
  have h3 := (b 3).isLt
  match j with
  | 0 => norm_num; omega
  | 1 => norm_num; omega
  | 2 => norm_num; omega
  | 3 => norm_num; omega

/-- A multiple of 4 bytes makes a quarter as many words. -/
theorem packWords_length (n : Nat) : ∀ bs : List Byte, bs.length = 4 * n → (packWords bs).length = n := by
  induction n with
  | zero =>
    intro bs h
    obtain rfl : bs = [] := List.eq_nil_of_length_eq_zero (by simpa using h)
    rfl
  | succ n ih =>
    intro bs h
    match bs, h with
    | b0 :: b1 :: b2 :: b3 :: r, h =>
      simp only [packWords, List.length_cons] at h ⊢
      rw [ih r (by omega)]

/-- Byte j of word k is byte 4k + j of the statement. -/
theorem packWords_byte (n : Nat) : ∀ bs : List Byte, bs.length = 4 * n →
    ∀ k (hk : k < (packWords bs).length) (j : Fin 4) (hj : 4 * k + j.val < bs.length),
      ((packWords bs)[k]).extractLsb' (24 - 8 * j.val) 8 = bs[4 * k + j.val] := by
  induction n with
  | zero => intro bs h k hk j hj; omega
  | succ n ih =>
    intro bs h k hk j hj
    match bs, h with
    | b0 :: b1 :: b2 :: b3 :: r, h =>
      cases k with
      | zero =>
        have hb := be32_byte (fun i => match i with | 0 => b0 | 1 => b1 | 2 => b2 | 3 => b3) j
        simp only [packWords, List.getElem_cons_zero]
        rw [hb]
        match j with
        | 0 => rfl
        | 1 => rfl
        | 2 => rfl
        | 3 => rfl
      | succ k =>
        have hr := ih r (by simp at h; omega) k (by simp [packWords] at hk; omega) j (by simp at hj; omega)
        have e : 4 * (k + 1) + j.val = 4 * k + j.val + 4 := by omega
        simp only [packWords, List.getElem_cons_succ, hr, e]

end Sys2Proof.Machine
end

