-- ==== Sys2Proof/Laws/PerInstr.lean ====
section
/-! SUPPORT. Statements about every command as syntax, one lemma per constructor. -/

/-- The command is well formed and its word is legal: the reserved bits are zero and the operation code is assigned
(spec/30_encoding.md R91, R95). -/
def Sys2Proof.Laws.LegalWord.Statement (i : Sys2Proof.Instr) : Prop :=
  i.wf = true ∧ Sys2Proof.wordLegal (Sys2Proof.encode i) = true

theorem Sys2Proof.Laws.LegalWord.nop : Sys2Proof.Laws.LegalWord.Statement .nop := ⟨by decide, by decide⟩
theorem Sys2Proof.Laws.LegalWord.encode : Sys2Proof.Laws.LegalWord.Statement .encode := ⟨by decide, by decide⟩
theorem Sys2Proof.Laws.LegalWord.truncate : Sys2Proof.Laws.LegalWord.Statement .truncate := ⟨by decide, by decide⟩
theorem Sys2Proof.Laws.LegalWord.reduce : Sys2Proof.Laws.LegalWord.Statement .reduce := ⟨by decide, by decide⟩
theorem Sys2Proof.Laws.LegalWord.format : Sys2Proof.Laws.LegalWord.Statement .format := ⟨by decide, by decide⟩
theorem Sys2Proof.Laws.LegalWord.generate : Sys2Proof.Laws.LegalWord.Statement .generate := ⟨by decide, by decide⟩
theorem Sys2Proof.Laws.LegalWord.clear : Sys2Proof.Laws.LegalWord.Statement .clear := ⟨by decide, by decide⟩
end

