-- ==== Sys2Proof/Laws/Safety.lean ====
section
/-! SUPPORT. What one more observation does to the duties and to what a record shows. -/

namespace Sys2Proof.Safety

open Sys2Proof.Machine

/-- The duties after one more observation are those before it, one step on. -/
theorem duties_cons {o : Observation} {os : List Observation} {d : Duty} (h : duties (o :: os) = some d) :
    ∃ d0, duties os = some d0 ∧ dutyStep d0 o = some d := by
  simp only [duties] at h
  cases h0 : duties os with
  | none => simp [h0] at h
  | some d0 => exact ⟨d0, rfl, by simpa [h0] using h⟩

/-- A write that leaves the host awaiting nothing was no CMD write, and it awaited nothing before. -/
theorem dutyWrite_not_awaiting {d0 d : Duty} {r : Reg} {v : Word} (h : dutyWrite d0 r v = some d) (haw : d.awaiting = false) :
    r ≠ .cmd ∧ d0.awaiting = false := by
  simp only [dutyWrite] at h
  split at h
  · cases h
  · rename_i h0
    refine ⟨?_, by simpa using h0⟩
    rintro rfl
    simp only at h
    split at h
    · split at h <;> cases h
      simp at haw
    · cases h
      simp at haw

/-- A record that is polled to the letter shows an idle engine, after any record that does. -/
theorem knownIdle_append_of_polled {run before : List Observation} (hb : knownIdle before = true) (hp : polled run = true) :
    knownIdle (run ++ before) = true := by
  induction run with
  | nil => exact hb
  | cons o os ih =>
    cases o with
    | completed e => exact ih hp
    | wasReset p => rfl
    | served m t r =>
      simp only [polled, List.cons_append, knownIdle, Bool.or_eq_true, Bool.and_eq_true] at hp ⊢
      rcases hp with h | h
      · exact .inl h
      · refine .inr ⟨?_, ih h.2⟩
        cases r with
        | ok v => exact h.1
        | error k => rfl

end Sys2Proof.Safety
end

