-- ==== Sys2Proof/Laws/Step.lean ====
section
/-! SUPPORT. Everything a step can do, said once. -/

namespace Sys2Proof.Machine

/-- The engine's turn while idle: nothing. -/
theorem engineTurn_idle {s : State} (h : s.busy = false) : engineTurn s = .next s := by simp [engineTurn, h]

/-- The engine's turn on a pending command: the command's rule, its code noted. -/
theorem engineTurn_command {s : State} {i : Instr} (hb : s.busy = true) (h : decode s.pend = .command i) :
    engineTurn s = logCompletion (exec i s) := by simp [engineTurn, runPending, hb, h]

/-- The engine's turn on a pending illegal word: code 1, noted (spec/60_exceptions.md R177). -/
theorem engineTurn_illegal {s : State} {why : Illegal} (hb : s.busy = true) (h : decode s.pend = .illegal why) :
    engineTurn s = .next (record (.completed 1) (raiseError .illegalCmd s)) := by
  simp [engineTurn, runPending, hb, h, logCompletion, errorCode]

theorem step_nil {s : State} (h : s.agenda = []) : step s = engineTurn s := by simp [step, nextTurn, h]

theorem step_cons {s : State} {e : Event} {es : List Event} (h : s.agenda = e :: es) :
    step s = turn e (setAgenda es s) := by simp [step, nextTurn, h]

theorem step_bus {s : State} {m : Master} {t : Txn} {es : List Event} (h : s.agenda = .bus m t :: es) :
    step s = .next (serveBus m t (setAgenda es s)) := by simp [step_cons h, turn]

theorem step_sys {s : State} {m : Master} {x : SysTxn} {es : List Event} (h : s.agenda = .sys m x :: es) :
    step s = .next (serveSys m x (setAgenda es s)) := by simp [step_cons h, turn]

theorem step_engine {s : State} {es : List Event} (h : s.agenda = .engine :: es) :
    step s = engineTurn (setAgenda es s) := by simp [step_cons h, turn]

theorem step_reset {s : State} {p : Option Txn} {es : List Event} (h : s.agenda = .reset p :: es) :
    step s = .next (record (.wasReset p) (resetBlock (setAgenda es s))) := by simp [step_cons h, turn]

/-- A write to a writable register of an idle block, as a step (spec/20_memory.md R68). -/
theorem step_write {s s' : State} {m : Master} {r : Reg} {v : Word} {es : List Event} (hb : s.busy = false)
    (ha : s.agenda = .bus m ⟨.write v, regOffset r, .word⟩ :: es) (h : writeReg r v (setAgenda es s) = some s') :
    step s = .next (record (.served m ⟨.write v, regOffset r, .word⟩ (.ok 0)) s') := by
  rw [step_bus ha, serveBus, serve_write (by simpa using hb) h]

/-- Everything an engine's turn that answers a next state can be. -/
theorem engineTurn_cases {s t : State} (h : engineTurn s = .next t) :
    (s.busy = false ∧ t = s) ∨
      (∃ i u, s.busy = true ∧ decode s.pend = .command i ∧ exec i s = .next u ∧ t = record (.completed u.errcode) u) ∨
      (∃ why, s.busy = true ∧ decode s.pend = .illegal why ∧
        t = record (.completed 1) (raiseError .illegalCmd s)) := by
  cases hb : s.busy with
  | false =>
    rw [engineTurn_idle hb] at h
    exact .inl ⟨rfl, by simpa using h.symm⟩
  | true =>
    cases hd : decode s.pend with
    | illegal why =>
      rw [engineTurn_illegal hb hd] at h
      exact .inr (.inr ⟨why, rfl, rfl, by simpa using h.symm⟩)
    | command i =>
      rw [engineTurn_command hb hd] at h
      cases he : exec i s with
      | next u => exact .inr (.inl ⟨i, u, rfl, rfl, he, by simpa [he, logCompletion] using h.symm⟩)
      | fault f => simp [he, logCompletion] at h
      | refused r => simp [he, logCompletion] at h

/-- Everything a step that answers a next state can be: one agent's turn, with the agenda one shorter (or empty, and the
engine's). -/
theorem step_cases {s t : State} (h : step s = .next t) :
    (s.agenda = [] ∧ engineTurn s = .next t) ∨
      ∃ e es, s.agenda = e :: es ∧
        ((∃ m x, e = .bus m x ∧ t = serveBus m x (setAgenda es s)) ∨
          (∃ m x, e = .sys m x ∧ t = serveSys m x (setAgenda es s)) ∨
          (e = .engine ∧ engineTurn (setAgenda es s) = .next t) ∨
          (∃ p, e = .reset p ∧ t = record (.wasReset p) (resetBlock (setAgenda es s)))) := by
  cases ha : s.agenda with
  | nil => exact .inl ⟨rfl, by rwa [step_nil ha] at h⟩
  | cons e es =>
    refine .inr ⟨e, es, rfl, ?_⟩
    cases e with
    | bus m x => exact .inl ⟨m, x, rfl, by simpa [step_bus ha] using h.symm⟩
    | sys m x => exact .inr (.inl ⟨m, x, rfl, by simpa [step_sys ha] using h.symm⟩)
    | engine => exact .inr (.inr (.inl ⟨rfl, by rwa [step_engine ha] at h⟩))
    | reset p => exact .inr (.inr (.inr ⟨p, rfl, by simpa [step_reset ha] using h.symm⟩))

/-- A run of one step more is the step and then the run. -/
theorem run_succ {n : Nat} {s t : State} (h : step s = .next t) :
    Host.Core.run core (n + 1) s = Host.Core.run core n t := by
  have h' : core.step s = .next t := h
  simp only [Host.Core.run, h']

end Sys2Proof.Machine
end

