-- ==== Sys2Proof/Tests/Slice0.lean ====
section
/-! SUPPORT. Tests with expected values from spec/95_test_vectors.md and spec/30_encoding.md, and for each statement that has
hypotheses a witness that meets them together. -/

namespace Sys2Proof.Tests

open Sys2Proof.Machine Sys2Proof.Safety

/-! ### Decoding: words written out from the opcode map (30_encoding.md R94) and the illegal words of 95_test_vectors.md 2.8 -/

theorem test_decode_nop : decode 0b00000000000000000000000000000000#32 = .command .nop := by decide
theorem test_decode_encode : decode 0b00000000000000000000000000000001#32 = .command .encode := by decide
theorem test_decode_truncate : decode 0b00000000000000000000000000000010#32 = .command .truncate := by decide
theorem test_decode_reduce : decode 0b00000000000000000000000000000011#32 = .command .reduce := by decide
theorem test_decode_format : decode 0b00000000000000000000000000000100#32 = .command .format := by decide
theorem test_decode_generate : decode 0b00000000000000000000000000000101#32 = .command .generate := by decide
theorem test_decode_clear : decode 0b00000000000000000000000000000110#32 = .command .clear := by decide

/-- I-1, I-2: reserved operation codes. -/
theorem test_decode_reserved_opcode :
    decode 0x00000007#32 = .illegal .reservedOpcode ∧ decode 0x0000000F#32 = .illegal .reservedOpcode := by decide

/-- I-3 to I-6: reserved bits set. -/
theorem test_decode_reserved_bits :
    decode 0x00000010#32 = .illegal .reservedBits ∧ decode 0x00000017#32 = .illegal .reservedBits ∧
    decode 0x80000005#32 = .illegal .reservedBits ∧ decode 0xFFFFFFFF#32 = .illegal .reservedBits := by decide

/-- A table row's word, laid out as the host's bus writes it, reaches the decoder. -/
theorem test_decodeTableWord : decodeTableWord 32 6 = some .clear ∧ decodeTableWord 32 0x80000005 = none := by decide

/-! ### Well-formedness: a term that each check refuses -/

/-- RES not zero: I-3. -/
theorem test_resClear_refuses : resClear 0x00000010#32 = false ∧ wordLegal 0x00000010#32 = false := by decide

/-- OP reserved: I-1. -/
theorem test_opAssigned_refuses : opAssigned 0x00000007#32 = false ∧ wordLegal 0x00000007#32 = false := by decide

/-- SETDIG of three bytes and of 68 bytes (30_encoding.md R98); one of 64 is accepted. -/
theorem test_stmtWf_refuses : stmtWf (.setdig [1, 2, 3]) = false ∧ stmtWf (.setdig (List.replicate 68 0)) = false ∧
    stmtWf (.setdig (List.replicate 64 0)) = true := by decide

/-! ### Small states, with the buffers of 95_test_vectors.md -/

/-- Reset with the first five digest words written. -/
def withFive (w0 w1 w2 w3 w4 : Word) : State :=
  { State.reset with digest := #v[w0, w1, w2, w3, w4, 0, 0, 0, 0, 0, 0, 0, 0, 0, 0, 0], dvalid := 0x1F }

/-- T-1's setup: the A-0 digest. -/
def stateA0 : State := withFive 0xCC93CF18 0x508D9493 0x4C64B65D 0x8BA7667F 0xB7CDE4B0

/-- G-2's setup: the A-1 digest. -/
def stateA1 : State := withFive 0x75A48A19 0xD4CBE100 0x644E8AC1 0x397EEA74 0x7A2D33AB

/-- T-3's setup: twenty bytes 0xFF. -/
def stateFF : State := withFive 0xFFFFFFFF 0xFFFFFFFF 0xFFFFFFFF 0xFFFFFFFF 0xFFFFFFFF

/-- T-7's setup: SHA256. -/
def stateT7 : State :=
  { State.reset with
    alg := 1
    digest := #v[0, 0, 0x00003B9A, 0xCA000000, 0x000000AB, 0, 0, 0x0000000A, 0, 0, 0, 0, 0, 0, 0, 0]
    dvalid := 0xFF }

/-- T-9's setup: SHA512. -/
def stateT9 : State :=
  { State.reset with
    alg := 2
    digest := #v[0x0000007F, 0xFFFFFF00, 0, 0, 0, 0, 0, 0, 0, 0, 0, 0, 0, 0, 0, 0x00000003]
    dvalid := 0xFFFF }

/-- The state a step answers, if it answers one. -/
def answered (o : Host.Outcome State Fault Refusal) : Option State :=
  match o with
  | .next t => some t
  | .fault _ => none
  | .refused _ => none

/-- The command of a word, accepted, and completed in one step. -/
def ran (w : Nat) (s : State) : Option State := answered (step (s.withFetchWord 32 w))

/-- One bus transaction on a state: the response and the state, the trace apart. -/
def busStep (t : Txn) (s : State) : Option (List Observation × State) :=
  (answered (step { s with agenda := [.bus 0 t] })).map fun u => (u.trace, { u with trace := s.trace })

/-! ### One step of each command -/

/-- N-1: NOP after G-E3's failure: ERR and ERRCODE are cleared. -/
theorem test_nop_clears_error :
    (ran 0 { stateA0 with err := true, errcode := 3, done := true, lastop := 5, pend := 5 }).map (readReg .status) =
      some 0x00000002#32 := by decide

/-- ENC-6. -/
theorem test_encode_order :
    (ran 1 { State.reset with counter := 0x0102030405060708 }).map
      (fun t => (t.msg.toList, readReg .msgW0 t, readReg .msgW1 t, readReg .status t)) =
    some ([0x01, 0x02, 0x03, 0x04, 0x05, 0x06, 0x07, 0x08], 0x01020304, 0x05060708, 0x00010102) := by decide

/-- T-8: SHA1 on T-7's buffer: the offset comes from DB(19), and the window crosses a word. -/
theorem test_truncate_sha1_on_longer_buffer :
    (ran 2 { stateT7 with alg := 0 }).map (fun t => (t.offset, t.trunc)) = some (11, 0x1ACA0000) := by decide

/-- T-3: the largest offset, and bit 31 of the window dropped; then VV and CV are cleared. -/
theorem test_truncate_masks_the_sign :
    (ran 2 { stateFF with vv := true, cv := true }).map (fun t => (t.offset, t.trunc, t.tv, t.vv, t.cv)) =
      some (15, 0x7FFFFFFF, true, false, false) := by decide

/-- R-14: the largest TRUNC in nine digits. -/
theorem test_reduce_nine_digits :
    (ran 3 { State.reset with trunc := 2147483647, tv := true, digits := 9 }).map (fun t => (t.value.toNat, t.vdigits)) =
      some (147483647, 9) := by decide

/-- R-E3: the DIGITS check comes before the TV check. -/
theorem test_reduce_checks_digits_first :
    (ran 3 { State.reset with digits := 15 }).map (·.errcode) = some 3 := by decide

/-- F-3: a leading zero, and zero bytes from CODELEN on. -/
theorem test_format_leading_zero :
    (ran 4 { State.reset with value := 693936, vdigits := 7, vv := true, code := #v[1, 2, 3, 4, 5, 6, 7, 8, 9, 10, 11, 12] }).map
      (fun t => (readReg .codeW0 t, readReg .codeW1 t, readReg .codeW2 t, readReg .dinfo t)) =
    some (0x30363933, 0x39333600, 0x00000000, 0x00000707) := by decide

/-- F-E1: no reduced value. -/
theorem test_format_without_value : (ran 4 State.reset).map (readReg .status) = some 0x00040066#32 := by decide

/-- G-2. -/
theorem test_generate_A1 :
    (ran 5 stateA1).map (fun t => (t.offset, t.trunc, t.value.toNat, readReg .codeW0 t, readReg .codeW1 t, readReg .dinfo t)) =
      some (11, 0x41397EEA, 287082, 0x32383730, 0x38320000, 0x00000606) := by decide

/-- G-E2: the DIGITS check comes before the DVALID check. -/
theorem test_generate_check_order : (ran 5 { State.reset with digits := 0 }).map (·.errcode) = some 3 := by decide

/-- CL-3, and CL-1's STATUS: CTRL and COUNTER stay, DIGEST and DVALID go. -/
theorem test_clear :
    (ran 6 { stateT9 with digits := 10, counter := 0x27BC86AA, msgv := true, tv := true, vv := true, cv := true }).map
      (fun t => (readReg .ctrl t, t.counter, t.dvalid, readReg (.digestW 1) t, readReg .status t)) =
    some (0x00000A02, 0x27BC86AA, 0, 0, 0x00060002) := by decide

/-- I-3 and I-5: an illegal word completes with code 1. -/
theorem test_illegal_words :
    (ran 0x10 State.reset).map (readReg .status) = some 0x00000016#32 ∧
    (ran 0x80000005 stateA0).map (readReg .status) = some 0x00050016#32 := by decide

/-! ### One bus transaction (95_test_vectors.md 2.9) -/

/-- BE-13: reserved bits of CTRL are dropped. -/
theorem test_write_ctrl :
    busStep ⟨.write 0xFFFFFFFF, 0x04, .word⟩ State.reset =
      some ([.served 0 ⟨.write 0xFFFFFFFF, 0x04, .word⟩ (.ok 0)], { State.reset with alg := 3, digits := 15 }) := by decide

/-- BE-14: a zero written to a digest word sets its DVALID bit. -/
theorem test_write_digest :
    busStep ⟨.write 0, 0x40, .word⟩ State.reset =
      some ([.served 0 ⟨.write 0, 0x40, .word⟩ (.ok 0)], { State.reset with dvalid := 1 }) := by decide

/-- BE-7, BE-8, BE-9: the order of the causes, and nothing changes. -/
theorem test_error_order :
    busStep ⟨.write 0, 0x81, .word⟩ State.reset = some ([.served 0 ⟨.write 0, 0x81, .word⟩ (.error .width)], State.reset) ∧
    busStep ⟨.write 0, 0x0C, .word⟩ { State.reset with busy := true } =
      some ([.served 0 ⟨.write 0, 0x0C, .word⟩ (.error .readOnly)], { State.reset with busy := true }) ∧
    busStep ⟨.write 0x801, 0x04, .word⟩ { State.reset with busy := true } =
      some ([.served 0 ⟨.write 0x801, 0x04, .word⟩ (.error .busy)], { State.reset with busy := true }) := by decide

/-- BE-1 and BE-11's read while BUSY: STATUS shows the previous flags. -/
theorem test_reads :
    busStep ⟨.read, 0x00, .word⟩ State.reset =
      some ([.served 0 ⟨.read, 0x00, .word⟩ (.ok 0x484F5450)], State.reset) ∧
    (busStep ⟨.read, 0x0C, .word⟩ { State.reset with busy := true, tv := true, vv := true, cv := true, lastop := 5 }).map (·.1) =
      some [.served 0 ⟨.read, 0x0C, .word⟩ (.ok 0x00050E01)] := by decide

/-- RS-1: reset discards a pending command. -/
theorem test_reset_discards :
    (answered (step { stateA0 with busy := true, pend := 5, lastop := 5, agenda := [.reset none] })).map
      (fun t => { t with trace := [] }) = some State.reset := by decide

/-- SETDIG and SETCFG expand as in program P2 (30_encoding.md R98). -/
theorem test_expansion :
    expandAll 0 [.setcfg 1 8, .setdig [0x39, 0x25, 0x14, 0xC9, 0xDD, 0x41, 0x65, 0xD4]] =
      [.bus 0 ⟨.write 0x00000801, 0x04, .word⟩, .bus 0 ⟨.write 0x392514C9, 0x40, .word⟩,
       .bus 0 ⟨.write 0xDD4165D4, 0x44, .word⟩] := by decide

/-! ### The host's duties and the end of a run (70_reset_and_hazards.md R209, R210, R217, R218) -/

/-- A write before the poll breaks a duty; a STATUS read with BUSY = 0 takes the duty back, and so does a reset (log entry 15), which is
no such read to the letter. -/
theorem test_polling :
    let cmd : Observation := .served 0 ⟨.write 3, 0x08, .word⟩ (.ok 0)
    let poll (v : Word) : Observation := .served 0 ⟨.read, 0x0C, .word⟩ (.ok v)
    let ctrl : Observation := .served 0 ⟨.write 0x600, 0x04, .word⟩ (.ok 0)
    duties [ctrl, cmd] = none ∧ duties [ctrl, poll 0x30001, cmd] = none ∧
    duties [ctrl, poll 0x30036, cmd] = some ⟨false, false, false⟩ ∧ duties [ctrl, .wasReset none, cmd] = some ⟨false, false, false⟩ ∧
    polled [poll 0x30001, cmd] = false ∧ polled [poll 0x30036, cmd] = true ∧ polled [.wasReset none, cmd] = false ∧
    knownIdle [.wasReset none, cmd] = true := by decide

/-- P3, lines 4 to 7, in the branch where line 5 is refused: the program expects code 3 and allows the error of its statement 1, and has
broken a duty there. -/
theorem test_run_of_P3 :
    let wr (off : BitVec 8) (v : Word) (r : Response) : Observation := .served 0 ⟨.write v, off, .word⟩ r
    let run := [wr 0x04 0x600 (.ok 0), .served 0 ⟨.read, 0x0C, .word⟩ (.ok 0x00030036), .completed 3,
      wr 0x04 0x600 (.error .busy), wr 0x08 3 (.ok 0), .completed 7]
    completions (fromFirstCmd run) = [3] ∧ busErrors run = [⟨0, 1, .busy⟩] ∧ duties run = none ∧ polled run = true := by decide

/-- Two masters: one after the other is exclusive use; a transaction of one inside the other's sequence is not, nor is a use outside
every sequence. -/
theorem test_exclusive_use :
    let wr (m : Master) : Observation := .served m ⟨.write 1, 0x18, .word⟩ (.ok 0)
    let rd (m : Master) : Observation := .served m ⟨.read, 0x20, .word⟩ (.ok 1)
    let seqs : List Sequence := [⟨0, 0, 1⟩, ⟨1, 0, 1⟩]
    exclusiveUse seqs [rd 1, wr 1, rd 0, wr 0] = true ∧ exclusiveUse seqs [rd 1, rd 0, wr 1, wr 0] = false ∧
    exclusiveUse [⟨0, 0, 1⟩] [wr 1, rd 0, wr 0] = false := by decide

/-- A run of one NOP, polled once, that ended well formed. -/
theorem test_wellFormedEnd :
    WellFormedEnd ⟨[.wasReset none], [], [0], [], [⟨0, 0, 0⟩]⟩
      [.served 0 ⟨.read, 0x0C, .word⟩ (.ok 2), .completed 0, .served 0 ⟨.write 0, 0x08, .word⟩ (.ok 0)]
      { State.reset with
        done := true
        trace := [.served 0 ⟨.read, 0x0C, .word⟩ (.ok 2), .completed 0, .served 0 ⟨.write 0, 0x08, .word⟩ (.ok 0), .wasReset none] } := by
  constructor <;> decide

/-! ### Witnesses: concrete inputs that meet the hypotheses of each statement -/

/-- A pending command on a state, with a given agenda. -/
def pending (i : Instr) (es : List Event) (s : State) : State := setAgenda es (accept (encode i) s)

/-- A pending illegal word. -/
def pendingIllegal (es : List Event) : State := setAgenda es (accept 0x00000017 stateA0)

/-- A state after a successful GENERATE on A-0 (G-1), every stage valid. -/
def stateG1 : State :=
  { stateA0 with
    offset := 0, trunc := 0x4C93CF18, tv := true, value := 755224, vdigits := 6, vv := true
    code := #v[0x37, 0x35, 0x35, 0x32, 0x32, 0x34, 0, 0, 0, 0, 0, 0], codelen := 6, cv := true
    done := true, lastop := 5, pend := 5 }

theorem witness_ResetEventRestoresEveryComponent :
    (pending .generate [.reset none, .engine] stateG1).agenda = .reset none :: [.engine] ∧
    (pending .generate [.reset (some ⟨.read, 0, .word⟩)] stateG1).agenda = .reset (some ⟨.read, 0, .word⟩) :: [] := by decide

theorem inv_stateG1 : Inv stateG1 := by constructor <;> decide

/-- The least and the greatest VDIGITS: TRUNC of A-0 in one digit (R-1, before FORMAT) and in ten (R-10). -/
theorem witness_FormatSpellsTheReducedTruncation :
    let low : State := { stateG1 with value := 4, vdigits := 1, cv := false }
    let high : State := { stateG1 with value := 1284755224, vdigits := 10, cv := false }
    (Inv low ∧ low.vv = true) ∧ (Inv high ∧ high.vv = true) :=
  ⟨⟨by constructor <;> decide, rfl⟩, by constructor <;> decide, rfl⟩

theorem inv_pending_reduce : Inv (pending .reduce [.engine] stateG1) := by constructor <;> decide

theorem witness_EveryStepKeepsTheInvariant :
    (Inv (pending .reduce [.engine] stateG1) ∧ ∃ t, step (pending .reduce [.engine] stateG1) = .next t) ∧
    (Inv stateG1 ∧ ∃ t, step stateG1 = .next t) := ⟨⟨inv_pending_reduce, _, rfl⟩, inv_stateG1, _, rfl⟩

theorem witness_CommandWordsDecodeAsMapped : 7 ≤ (7 : Fin 16).val ∧ 7 ≤ (15 : Fin 16).val := by decide

theorem witness_EveryWordDecodesAsTabled :
    (0x00000010#32).toNat / 2 ^ 4 ≠ 0 ∧ (0xFFFFFFFF#32).toNat / 2 ^ 4 ≠ 0 ∧
    ((0x00000000#32).toNat / 2 ^ 4 = 0 ∧ (0x00000000#32).toNat % 2 ^ 4 = 0) ∧
    ((0x00000006#32).toNat / 2 ^ 4 = 0 ∧ (0x00000006#32).toNat % 2 ^ 4 = 6) ∧
    ((0x00000007#32).toNat / 2 ^ 4 = 0 ∧ 7 ≤ (0x00000007#32).toNat % 2 ^ 4) ∧
    ((0x0000000F#32).toNat / 2 ^ 4 = 0 ∧ 7 ≤ (0x0000000F#32).toNat % 2 ^ 4) ∧
    (pendingIllegal [.engine]).busy = true ∧ decode (pendingIllegal [.engine]).pend = .illegal .reservedBits ∧
    (pendingIllegal [.engine]).agenda = .engine :: [] := by decide

theorem witness_DecodeAndEncodeAgree : Instr.generate.wf = true ∧ decode 0x00000005#32 = .command .generate := by decide

theorem witness_StepRunsTheDecodedCommand :
    ((pending .generate [.engine, .engine] stateA0).busy = true ∧
      decode (pending .generate [.engine, .engine] stateA0).pend = .command .generate ∧ Instr.generate.wf = true ∧
      (pending .generate [.engine, .engine] stateA0).agenda = .engine :: [.engine]) ∧
    ((pending .clear [] stateA0).busy = true ∧ decode (pending .clear [] stateA0).pend = .command .clear ∧
      Instr.clear.wf = true ∧ (pending .clear [] stateA0).agenda = []) := by decide

theorem witness_StepCompletesAnIllegalWord :
    ((pendingIllegal [.engine]).busy = true ∧ decode (pendingIllegal [.engine]).pend = .illegal .reservedBits ∧
      (pendingIllegal [.engine]).agenda = .engine :: []) ∧
    ((pendingIllegal []).busy = true ∧ decode (pendingIllegal []).pend = .illegal .reservedBits ∧
      (pendingIllegal []).agenda = []) := by decide

theorem witness_IllegalWordIsAcceptedAndRecorded :
    decode 0x00000017#32 = .illegal .reservedBits ∧ decode 0x00000007#32 = .illegal .reservedOpcode ∧ stateG1.busy = false ∧
    (setAgenda [.bus 0 ⟨.write 0x17, 0x08, .word⟩, .engine] stateG1).agenda = .bus 0 ⟨.write 0x17, 0x08, .word⟩ :: .engine :: [] := by
  decide

theorem witness_AcceptanceSetsThePendingCommand :
    (setAgenda [.bus 0 ⟨.write 5, 0x08, .word⟩] stateG1).busy = false ∧
    (setAgenda [.bus 0 ⟨.write 5, 0x08, .word⟩] stateG1).agenda = .bus 0 ⟨.write 5, 0x08, .word⟩ :: [] := by decide

theorem witness_MessageWordsAreTheCounterWords :
    ∃ t, exec .encode { State.reset with counter := 0x8000000000000000 } = .next t := ⟨_, rfl⟩

/-- Every clause of TRUNCATE: ALG = 3; each digest length with every word written, and with its last word missing. -/
theorem witness_TruncateSelectsTheWindow :
    ({ stateA0 with alg := 3 } : State).alg = 3 ∧
    (stateA0.alg = 0 ∧ (∀ k, k < 20 / 4 → stateA0.dvalid.getLsbD k = true)) ∧
    (stateT7.alg = 1 ∧ (∀ k, k < 32 / 4 → stateT7.dvalid.getLsbD k = true)) ∧
    (stateT9.alg = 2 ∧ (∀ k, k < 64 / 4 → stateT9.dvalid.getLsbD k = true)) ∧
    (4 < 20 / 4 ∧ ({ stateA0 with dvalid := 0x0F } : State).dvalid.getLsbD 4 = false) ∧
    (7 < 32 / 4 ∧ ({ stateT7 with dvalid := 0x7F } : State).dvalid.getLsbD 7 = false) ∧
    (15 < 64 / 4 ∧ ({ stateT9 with dvalid := 0x7FFF } : State).dvalid.getLsbD 15 = false) := by decide

/-- For SHA1 and SHA256 the digest differs beyond the algorithm's words; for SHA512 there are none beyond. -/
theorem witness_WordsBeyondTheDigestAreIgnored :
    (stateA0.alg = 0 ∧ ∀ k : Fin 16, k.val < 20 / 4 →
      (stateA0.digest.set 5 9)[k.val] = stateA0.digest[k.val] ∧ (0x3F#16).getLsbD k.val = stateA0.dvalid.getLsbD k.val) ∧
    (stateT7.alg = 1 ∧ ∀ k : Fin 16, k.val < 32 / 4 →
      (stateT7.digest.set 8 9)[k.val] = stateT7.digest[k.val] ∧ (0x1FF#16).getLsbD k.val = stateT7.dvalid.getLsbD k.val) ∧
    (stateT9.alg = 2 ∧ ∀ k : Fin 16, k.val < 64 / 4 →
      stateT9.digest[k.val] = stateT9.digest[k.val] ∧ (0xFFFF#16).getLsbD k.val = stateT9.dvalid.getLsbD k.val) := by decide

theorem witness_OnlyTheLowNibbleOfTheLastByteMatters :
    (stateA0.alg = 0 ∧ (∀ i : Fin 64, i.val ≠ 20 - 1 →
        digestByte (stateA0.digest.set 4 0xB7CDE440) i = digestByte stateA0.digest i) ∧
      (digestByte (stateA0.digest.set 4 0xB7CDE440) (Fin.ofNat 64 (20 - 1))).toNat % 16 =
        (digestByte stateA0.digest (Fin.ofNat 64 (20 - 1))).toNat % 16) ∧
    (stateT9.alg = 2 ∧ (∀ i : Fin 64, i.val ≠ 64 - 1 →
        digestByte (stateT9.digest.set 15 0xF3) i = digestByte stateT9.digest i) ∧
      (digestByte (stateT9.digest.set 15 0xF3) (Fin.ofNat 64 (64 - 1))).toNat % 16 =
        (digestByte stateT9.digest (Fin.ofNat 64 (64 - 1))).toNat % 16) := by decide

theorem witness_LargestTruncatedValue : ∃ t, exec .truncate stateFF = .next t ∧ t.errcode = 0 := ⟨_, rfl, by decide⟩

/-- DIGITS at both sides of both bounds, and TV at both values. -/
theorem witness_ReduceTakesTheRemainder :
    ((0#4).toNat < 1 ∧ 10 < (11#4).toNat) ∧
    (1 ≤ (1#4).toNat ∧ (1#4).toNat ≤ 10 ∧ 1 ≤ (10#4).toNat ∧ (10#4).toNat ≤ 10) ∧
    (1 ≤ State.reset.digits.toNat ∧ State.reset.digits.toNat ≤ 10 ∧ State.reset.tv = false) ∧
    (1 ≤ stateG1.digits.toNat ∧ stateG1.digits.toNat ≤ 10 ∧ stateG1.tv = true) := by decide

theorem witness_ReducedValueIsTheUniqueRemainder :
    (∃ t, exec .reduce stateG1 = .next t ∧ t.errcode = 0) ∧
    (stateG1.trunc.toNat = 10 ^ stateG1.digits.toNat * 1284 + 755224 ∧ 755224 < 10 ^ stateG1.digits.toNat) ∧
    ({ stateG1 with digits := 10 } : State).digits = 10 := ⟨⟨_, rfl, by decide⟩, by decide, by decide⟩

/-- VV at both values, VDIGITS at both ends of its range, and a byte on each side of VDIGITS. -/
theorem witness_FormatWritesTheDecimalCode :
    State.reset.vv = false ∧ stateG1.vv = true ∧ 1 ≤ stateG1.vdigits.toNat ∧ stateG1.vdigits.toNat ≤ 10 ∧
    (5 : Fin 12).val < stateG1.vdigits.toNat ∧ stateG1.vdigits.toNat ≤ (6 : Fin 12).val ∧ (1#4).toNat ≤ 10 ∧ 1 ≤ (10#4).toNat := by
  decide

theorem witness_CodeSpellsTheValue :
    stateG1.vv = true ∧ 1 ≤ stateG1.vdigits.toNat ∧ stateG1.vdigits.toNat ≤ 10 ∧
    stateG1.value.toNat < 10 ^ stateG1.vdigits.toNat := by decide

/-- GENERATE's clauses, but for those of the digest lengths, which `witness_TruncateSelectsTheWindow` has: DIGITS illegal, and
legal with the digest incomplete and complete. -/
theorem witness_GenerateRunsAllStages :
    ({ stateA0 with alg := 3, digits := 0 } : State).alg = 3 ∧
    (({ stateA0 with digits := 0 } : State).alg = 0 ∧ ({ stateA0 with digits := 0 } : State).digits.toNat < 1) ∧
    (10 < ({ stateA0 with digits := 11 } : State).digits.toNat) ∧
    (State.reset.alg = 0 ∧ 1 ≤ State.reset.digits.toNat ∧ State.reset.digits.toNat ≤ 10 ∧
      0 < 20 / 4 ∧ State.reset.dvalid.getLsbD 0 = false) ∧
    (({ stateT9 with digits := 10 } : State).alg = 2 ∧ ({ stateT9 with digits := 10 } : State).digits.toNat ≤ 10 ∧
      ∀ k, k < 64 / 4 → ({ stateT9 with digits := 10 } : State).dvalid.getLsbD k = true) := by decide

theorem witness_GenerateEqualsTheStagedCommands :
    (stateA0.busy = false ∧ ∃ s1 s2 s3, command .truncate stateA0 = .next s1 ∧ s1.errcode = 0 ∧
      command .reduce s1 = .next s2 ∧ s2.errcode = 0 ∧ command .format s2 = .next s3 ∧ s3.errcode = 0) ∧
    (({ stateT9 with digits := 11, dvalid := 0x7FFF } : State).alg = 2 ∧
      10 < ({ stateT9 with digits := 11, dvalid := 0x7FFF } : State).digits.toNat ∧
      15 < 64 / 4 ∧ ({ stateT9 with digits := 11, dvalid := 0x7FFF } : State).dvalid.getLsbD 15 = false) :=
  ⟨⟨rfl, _, _, _, rfl, by decide, rfl, by decide, rfl, by decide⟩, by decide⟩

/-- CLEAR's last clause names the registers that are none of the four. -/
theorem witness_ClearZeroesTheDatapath :
    Reg.trunc ≠ .ctrl ∧ Reg.trunc ≠ .counterHi ∧ Reg.trunc ≠ .counterLo ∧ Reg.trunc ≠ .status := by decide

/-- Two states that differ in everything CLEAR removes. -/
theorem witness_ClearForgetsTheDigest :
    stateG1.digest ≠ State.reset.digest ∧
    let s : State := { State.reset with pend := 5, lastop := 5 }
    stateG1.alg = s.alg ∧ stateG1.digits = s.digits ∧ stateG1.counter = s.counter ∧ stateG1.pend = s.pend ∧
    stateG1.lastop = s.lastop ∧ stateG1.agenda = s.agenda ∧ stateG1.trace = s.trace := by decide

/-- A failure of each kind a command has. -/
theorem witness_FailedCommandChangesOnlyStatus :
    (∃ t, exec .truncate { stateA0 with alg := 3 } = .next t ∧ t.errcode ≠ 0) ∧
    (∃ t, exec .generate { stateA0 with digits := 11 } = .next t ∧ t.errcode ≠ 0) ∧
    (∃ t, exec .generate State.reset = .next t ∧ t.errcode ≠ 0) ∧
    (∃ t, exec .reduce State.reset = .next t ∧ t.errcode ≠ 0) ∧
    (∃ t, exec .format State.reset = .next t ∧ t.errcode ≠ 0) :=
  ⟨⟨_, rfl, by decide⟩, ⟨_, rfl, by decide⟩, ⟨_, rfl, by decide⟩, ⟨_, rfl, by decide⟩, ⟨_, rfl, by decide⟩⟩

/-- A state that differs from the one the failure left in what the statement leaves free. -/
theorem witness_FailedCommandFailsAgain :
    ∃ t, command .reduce State.reset = .next t ∧ t.errcode ≠ 0 ∧
      let u : State := { stateFF with dvalid := 0, counter := 7, msgv := true }
      u.alg = t.alg ∧ u.digits = t.digits ∧ u.dvalid = t.dvalid ∧ u.tv = t.tv ∧ u.vv = t.vv := ⟨_, rfl, by decide, by decide⟩

/-- A state with a transaction next. -/
def facing (t : Txn) (s : State) : State := setAgenda [.bus 0 t] s

theorem witness_OnlyAlignedWordsAreLegal :
    (facing ⟨.read, 0x04, .byte⟩ stateG1).agenda = .bus 0 ⟨.read, 0x04, .byte⟩ :: [] ∧
    (⟨.read, 0x04, .byte⟩ : Txn).size = .byte ∧ (⟨.read, 0x04, .half⟩ : Txn).size = .half ∧
    (⟨.read, 0x01, .word⟩ : Txn).off.toNat % 4 ≠ 0 ∧ (⟨.write 0, 0xFF, .word⟩ : Txn).off.toNat % 4 ≠ 0 := by decide

/-- The first and the last unmapped word. -/
theorem witness_UpperHalfIsUnmapped :
    (facing ⟨.read, 0x80, .word⟩ stateG1).agenda = .bus 0 ⟨.read, 0x80, .word⟩ :: [] ∧
    (0x80#8).toNat % 4 = 0 ∧ 0x80 ≤ (0x80#8).toNat ∧ (0xFC#8).toNat % 4 = 0 ∧ 0x80 ≤ (0xFC#8).toNat := by decide

theorem witness_ReadOnlyRegistersRefuseWrites :
    (facing ⟨.write 7, 0x3C, .word⟩ stateG1).agenda = .bus 0 ⟨.write 7, 0x3C, .word⟩ :: [] ∧
    0x3C#8 ∈ [0x00#8, 0x0C#8, 0x10#8, 0x1C#8, 0x20#8, 0x24#8, 0x28#8, 0x2C#8, 0x30#8, 0x34#8, 0x38#8, 0x3C#8] := by decide

/-- A configuration register, and the first and the last digest word. -/
theorem witness_WritesWhileBusyAreLost :
    let s := pending .reduce [.bus 0 ⟨.write 0x600, 0x04, .word⟩] stateG1
    s.agenda = .bus 0 ⟨.write 0x600, 0x04, .word⟩ :: [] ∧ s.busy = true ∧ 0x04#8 ∈ [0x04#8, 0x08#8, 0x14#8, 0x18#8] ∧
    ((0x40#8).toNat % 4 = 0 ∧ 0x40 ≤ (0x40#8).toNat ∧ (0x40#8).toNat ≤ 0x7C) ∧
    ((0x7C#8).toNat % 4 = 0 ∧ 0x40 ≤ (0x7C#8).toNat ∧ (0x7C#8).toNat ≤ 0x7C) := by decide

/-- One transaction of each kind of error, and one answered OK. -/
theorem witness_BusErrorsAreClassifiedAndHarmless :
    (serve ⟨.write 0, 0x81, .word⟩ stateG1).2 = .error .width ∧ (serve ⟨.read, 0x80, .word⟩ stateG1).2 = .error .unmapped ∧
    (serve ⟨.write 0, 0x3C, .word⟩ stateG1).2 = .error .readOnly ∧
    (serve ⟨.write 0, 0x7C, .word⟩ (pending .nop [] stateG1)).2 = .error .busy ∧
    (serve ⟨.write 0, 0x7C, .word⟩ stateG1).2 = .ok 0 ∧
    (facing ⟨.write 0, 0x81, .word⟩ stateG1).agenda = .bus 0 ⟨.write 0, 0x81, .word⟩ :: [] := by decide

theorem witness_ReadsAnswerAndChangeNothing :
    (setAgenda [.bus 0 ⟨.read, regOffset (.digestW 15), .word⟩] stateG1).agenda =
      .bus 0 ⟨.read, regOffset (.digestW 15), .word⟩ :: [] ∧
    (0x7C#8).toNat % 4 = 0 ∧ (0x7C#8).toNat < 0x80 := by decide

theorem witness_WritesHaveExactlyTheirEffect :
    (facing ⟨.write 9, 0x7C, .word⟩ stateG1).busy = false ∧
    (facing ⟨.write 9, 0x7C, .word⟩ stateG1).agenda = .bus 0 ⟨.write 9, 0x7C, .word⟩ :: [] ∧
    (0x7C#8).toNat = 0x40 + 4 * (15 : Fin 16).val ∧ (0x40#8).toNat = 0x40 + 4 * (0 : Fin 16).val := by decide

theorem witness_ReadAfterWriteGivesTheWrittenValue :
    (facing ⟨.write 9, regOffset .counterHi, .word⟩ stateG1).busy = false ∧
    (facing ⟨.write 9, regOffset .counterHi, .word⟩ stateG1).agenda = .bus 0 ⟨.write 9, regOffset .counterHi, .word⟩ :: [] ∧
    Reg.counterLo ≠ .counterHi ∧ Reg.counterLo ≠ .dvalid ∧ ∀ k, Reg.counterHi ≠ .digestW k := by decide

theorem witness_RepeatedWriteChangesNothing :
    (setAgenda [.bus 0 ⟨.write 9, regOffset (.digestW 3), .word⟩, .bus 1 ⟨.write 9, regOffset (.digestW 3), .word⟩] stateG1).agenda =
      .bus 0 ⟨.write 9, regOffset (.digestW 3), .word⟩ :: .bus 1 ⟨.write 9, regOffset (.digestW 3), .word⟩ :: [] ∧
    stateG1.busy = false := by decide

theorem witness_BusNeverChangesResults :
    (facing ⟨.write 5, 0x08, .word⟩ stateG1).agenda = .bus 0 ⟨.write 5, 0x08, .word⟩ :: [] := by decide

/-- Both ends of the window, and the first address above it. The addresses below the window exist only when BASE_ADDR is not 0,
which the spec leaves open. -/
theorem witness_WindowIsDecodedFromTheBase :
    (setAgenda [.sys 0 ⟨.read, Config.baseAddr + 0xFF, .word⟩] stateG1).agenda = .sys 0 ⟨.read, Config.baseAddr + 0xFF, .word⟩ :: [] ∧
    (⟨.read, Config.baseAddr, .word⟩ : SysTxn).addr = Config.baseAddr + (0x00#8).toNat ∧
    (⟨.read, Config.baseAddr + 0xFF, .word⟩ : SysTxn).addr = Config.baseAddr + (0xFF#8).toNat ∧
    Config.baseAddr + 0xFF < (⟨.read, Config.baseAddr + 0x100, .word⟩ : SysTxn).addr :=
  ⟨rfl, rfl, rfl, Nat.add_lt_add_left (by decide) _⟩

theorem witness_OperandsAreFrozenWhileBusy :
    (pending .generate [.bus 0 ⟨.write 0x0B00, 0x04, .word⟩] stateA0).busy = true ∧
    (pending .generate [.bus 0 ⟨.write 0x0B00, 0x04, .word⟩] stateA0).agenda = .bus 0 ⟨.write 0x0B00, 0x04, .word⟩ :: [] := by decide

theorem witness_PendingCommandsFinish :
    (pending .generate [] stateA0).busy = true ∧
    (pending .generate [.bus 0 ⟨.read, 0x0C, .word⟩, .reset none] stateA0).busy = true := by decide

/-- A host that issued a command and then saw BUSY = 0. -/
def statePolled : State :=
  { stateG1 with
    agenda := [.bus 0 ⟨.write 0x600, regOffset .ctrl, .word⟩]
    trace := [.served 0 ⟨.read, 0x0C, .word⟩ (.ok 0x00050E02), .completed 0, .served 0 ⟨.write 5, 0x08, .word⟩ (.ok 0)] }

theorem pollInv_statePolled : PollInv statePolled := fun _ => rfl

/-- A host that has issued a command and has not polled yet. -/
def stateAwaiting : State :=
  setAgenda [.engine] (record (.served 0 ⟨.write 5, 0x08, .word⟩ (.ok 0)) (accept 5 stateA0))

theorem pollInv_stateAwaiting : PollInv stateAwaiting := by unfold PollInv; decide

theorem witness_EveryStepKeepsThePollingInvariant :
    (PollInv stateAwaiting ∧ ∃ t, step stateAwaiting = .next t) ∧ (PollInv statePolled ∧ ∃ t, step statePolled = .next t) :=
  ⟨⟨pollInv_stateAwaiting, _, rfl⟩, pollInv_statePolled, _, rfl⟩

theorem witness_PolledWritesAreAccepted :
    PollInv statePolled ∧ knownIdle statePolled.trace = true ∧
    statePolled.agenda = .bus 0 ⟨.write 0x600, regOffset .ctrl, .word⟩ :: [] := ⟨pollInv_statePolled, by decide, rfl⟩

theorem witness_DutifulHostsKnowTheEngineIsIdle : duties statePolled.trace = some ⟨false, false, false⟩ := by decide

theorem witness_EndedRunsStayAsTheyAre :
    PollInv (setAgenda [] statePolled) ∧ (setAgenda [] statePolled).trace = statePolled.trace ++ [] ∧ knownIdle [] = true ∧
    polled statePolled.trace = true ∧ (setAgenda [] statePolled).agenda = [] := ⟨fun _ => rfl, by decide, rfl, by decide, rfl⟩

theorem witness_IdleStateStays : stateG1.busy = false ∧ stateG1.agenda = [] := by decide

theorem witness_EngineDoesNothingWhileIdle :
    (setAgenda [.engine] stateG1).busy = false ∧ (setAgenda [.engine] stateG1).agenda = .engine :: [] := by decide

theorem witness_ConfigurationIsReadOnlyWhereSpecified :
    (Instr.reduce ≠ .truncate ∧ Instr.reduce ≠ .generate) ∧ (Instr.format ≠ .reduce ∧ Instr.format ≠ .generate) ∧
    Instr.generate ≠ .encode := by decide

theorem witness_CommandsChangeOnlyTheirRegisters :
    ∃ t, exec .truncate stateG1 = .next t ∧ Reg.value ≠ .status ∧ writes .truncate .value = false :=
  ⟨_, rfl, by decide, by decide⟩

/-- Of each clause a command that it is about. -/
theorem witness_CommandsChangeOnlyTheirFlags :
    (∃ t, exec .reduce stateG1 = .next t) ∧ (∃ t, exec .encode stateG1 = .next t) ∧
    (Instr.reduce ≠ .encode ∧ Instr.reduce ≠ .clear) ∧
    (Instr.reduce ≠ .truncate ∧ Instr.reduce ≠ .generate) ∧
    (Instr.encode ≠ .truncate ∧ Instr.encode ≠ .reduce ∧ Instr.encode ≠ .generate ∧ Instr.encode ≠ .clear) :=
  ⟨⟨_, rfl⟩, ⟨_, rfl⟩, by decide, by decide, by decide⟩

theorem witness_CompletionCommutesWithReads :
    (pending .generate [.bus 0 ⟨.read, 0x34, .word⟩, .engine] stateA0).busy = true ∧
    (⟨.read, 0x34, .word⟩ : Txn).access = .read ∧
    (pending .generate [.bus 0 ⟨.read, 0x34, .word⟩, .engine] stateA0).agenda = .bus 0 ⟨.read, 0x34, .word⟩ :: .engine :: [] := by
  decide

theorem witness_SetStatementsLoadTheirOperands :
    stateG1.busy = false ∧ stmtWf (.setdig (List.replicate 64 9)) = true ∧
    (setAgenda (expand 0 (.setdig (List.replicate 64 9)) ++ []) stateG1).agenda =
      expand 0 (.setdig (List.replicate 64 9)) ++ [] ∧
    (setAgenda (expand 0 (.setctr 0x0102030405060708) ++ [.engine]) stateG1).agenda =
      expand 0 (.setctr 0x0102030405060708) ++ [.engine] ∧
    (setAgenda (expand 0 (.setcfg 3 15) ++ []) stateG1).agenda = expand 0 (.setcfg 3 15) ++ [] := by decide

/-- With no poll that sees BUSY = 1 and with two. -/
theorem witness_RunStatementCompletesTheCommand :
    stateA0.busy = false ∧
    (setAgenda (expand 0 (.run .generate 0) ++ []) stateA0).agenda = expand 0 (.run .generate 0) ++ [] ∧
    (setAgenda (expand 0 (.run .reduce 2) ++ [.engine]) stateG1).agenda = expand 0 (.run .reduce 2) ++ [.engine] := by decide

end Sys2Proof.Tests
end

section
/-! PROOFS of the statements about the state (spec/10_state.md): its reset values and what the registers then read. -/

namespace Sys2Proof.Machine

theorem reset_msg_byte (i : Fin 8) : State.reset.msg[i] = 0 := by decide +revert

theorem reset_code_byte (j : Fin 12) : State.reset.code[j] = 0 := by decide +revert

theorem reset_digest_word (k : Fin 16) : State.reset.digest[k] = 0 := by decide +revert

/-- The registers of R22, in the order of the map: only CTRL and ID have a reset value that is not 0 (R50). -/
theorem readReg_reset (r : Reg) :
    readReg r State.reset = if r = .ctrl then 0x00000600#32 else if r = .id then 0x484F5450#32 else 0#32 := by
  cases r with
  | digestW k =>
    rw [if_neg nofun, if_neg nofun]
    exact reset_digest_word k
  | id | ctrl | cmd | status | dvalid | counterHi | counterLo | msgW0 | msgW1 | offset | trunc | value | dinfo
  | codeW0 | codeW1 | codeW2 => decide

/-- Settles O1: the three buffers byte by byte and word by word, the other components by the definition of the reset state, and
the registers by `readReg_reset`. -/
theorem resetValuesAreAsSpecified : Obligations.ResetValuesAreAsSpecified :=
  ⟨⟨rfl, rfl, rfl, reset_msg_byte, rfl, reset_digest_word, rfl, rfl, rfl, rfl, rfl, rfl, rfl, reset_code_byte,
    rfl, rfl, rfl, rfl, rfl, rfl, rfl, rfl⟩, readReg_reset⟩

end Sys2Proof.Machine
end

section
/-! PROOFS of the statements about the register window (spec/20_memory.md): which transactions are refused, what a read answers
and what a write does. -/

namespace Sys2Proof.Machine

/-! ### What `serve` answers where it refuses (spec/60_exceptions.md R181) -/

/-- No legal width: WIDTH (R63). -/
theorem serve_width {t : Txn} (h : ¬(t.size = .word ∧ t.off.toNat % 4 = 0)) (s : State) :
    serve t s = (s, .error .width) := by
  rw [serve, if_neg (mt (legalWidth_iff t).mp h)]

/-- A legal width from 0x80 on: UNMAPPED (R64). -/
theorem serve_unmapped {t : Txn} (hs : t.size = .word) (ha : t.off.toNat % 4 = 0) (h : 0x80 ≤ t.off.toNat) (s : State) :
    serve t s = (s, .error .unmapped) := by
  rw [serve, if_pos ((legalWidth_iff t).mpr ⟨hs, ha⟩), (regAt_eq_none_iff t.off).mpr h]

/-- A write to a read-only register: READONLY (R66). -/
theorem serve_readOnly {r : Reg} {v : Word} {s : State} (h : writeReg r v s = none) :
    serve ⟨.write v, regOffset r, .word⟩ s = (s, .error .readOnly) := by
  simp [serve, h]

/-- A write to a writable register while BUSY = 1: BUSY (R67). -/
theorem serve_write_busy {r : Reg} {v : Word} {s s' : State} (hb : s.busy = true) (h : writeReg r v s = some s') :
    serve ⟨.write v, regOffset r, .word⟩ s = (s, .error .busy) := by
  simp [serve, h, hb]

/-- A transaction that leaves the block as it is, as a step: only its response is noted. -/
theorem step_bus_unchanged {s : State} {t : Txn} {m : Master} {rest : List Event} {r : Response}
    (ha : s.agenda = .bus m t :: rest) (h : serve t (setAgenda rest s) = (setAgenda rest s, r)) :
    step s = .next { s with agenda := rest, trace := .served m t r :: s.trace } := by
  rw [step_bus ha, serveBus, h]
  rfl

/-! ### Which registers are read-only, and which offsets are whose (spec/10_state.md R22) -/

/-- The read-only registers (R66), in the order of the map. -/
def readOnlyRegs : List Reg :=
  [.id, .status, .dvalid, .msgW0, .msgW1, .offset, .trunc, .value, .dinfo, .codeW0, .codeW1, .codeW2]

/-- `writeReg` has no effect exactly for the read-only registers. -/
theorem writeReg_eq_none_iff (r : Reg) (v : Word) (s : State) : writeReg r v s = none ↔ r ∈ readOnlyRegs := by
  cases r <;> simp [writeReg, readOnlyRegs]

theorem writeReg_isSome_of_writable {r : Reg} (h : r ∉ readOnlyRegs) (v : Word) (s : State) :
    ∃ s', writeReg r v s = some s' :=
  Option.ne_none_iff_exists'.mp (mt (writeReg_eq_none_iff r v s).mp h)

theorem regOffset_digestW_toNat (k : Fin 16) : (regOffset (.digestW k)).toNat = 0x40 + 4 * k.val := by
  revert k; decide

/-- Every aligned offset below 0x80 is a register's (R62). -/
theorem exists_regOffset_eq {off : BitVec 8} (ha : off.toNat % 4 = 0) (h : off.toNat < 0x80) :
    ∃ r, regOffset r = off := by
  have hne : regAt off ≠ none := mt (regAt_eq_none_iff off).mp (by omega)
  obtain ⟨r, hr⟩ := Option.ne_none_iff_exists'.mp hne
  exact ⟨r, regOffset_of_regAt ha hr⟩

/-- The digest words fill 0x40 to 0x7C. -/
theorem exists_digestW_offset {off : BitVec 8} (ha : off.toNat % 4 = 0) (hlo : 0x40 ≤ off.toNat)
    (hhi : off.toNat ≤ 0x7C) : ∃ k, regOffset (.digestW k) = off := by
  refine ⟨⟨(off.toNat - 0x40) / 4, by omega⟩, BitVec.eq_of_toNat_eq ?_⟩
  rw [regOffset_digestW_toNat]
  simp only
  omega

/-- The offsets R67 lists are those of writable registers. -/
theorem exists_writable_offset {off : BitVec 8}
    (h : off ∈ [0x04#8, 0x08#8, 0x14#8, 0x18#8] ∨ (off.toNat % 4 = 0 ∧ 0x40 ≤ off.toNat ∧ off.toNat ≤ 0x7C)) :
    ∃ r, regOffset r = off ∧ r ∉ readOnlyRegs := by
  rcases h with h | ⟨ha, hlo, hhi⟩
  · obtain ⟨r, hr, rfl⟩ : ∃ r ∈ [Reg.ctrl, .cmd, .counterHi, .counterLo], regOffset r = off := List.mem_map.mp h
    have hw : ∀ r ∈ [Reg.ctrl, .cmd, .counterHi, .counterLo], r ∉ readOnlyRegs := by decide
    exact ⟨r, rfl, hw r hr⟩
  · obtain ⟨k, rfl⟩ := exists_digestW_offset ha hlo hhi
    exact ⟨_, rfl, by simp [readOnlyRegs]⟩

/-! ### The bus errors -/

/-- Settles O31: either cause contradicts the legal width. -/
theorem onlyAlignedWordsAreLegal : Obligations.OnlyAlignedWordsAreLegal := by
  intro s t m rest ha h
  refine step_bus_unchanged ha (serve_width ?_ _)
  rintro ⟨hs, hal⟩
  rcases h with h | h | h
  · simp [hs] at h
  · simp [hs] at h
  · exact h hal

/-- Settles O32, by `serve_unmapped`. -/
theorem upperHalfIsUnmapped : Obligations.UpperHalfIsUnmapped :=
  fun _ _ _ _ ha hs hal h => step_bus_unchanged ha (serve_unmapped hs hal h _)

/-- Settles O33: the twelve offsets are those of `readOnlyRegs`. -/
theorem readOnlyRegistersRefuseWrites : Obligations.ReadOnlyRegistersRefuseWrites := by
  intro s off v m rest ha h
  obtain ⟨r, hr, rfl⟩ : ∃ r ∈ readOnlyRegs, regOffset r = off := List.mem_map.mp h
  exact step_bus_unchanged ha (serve_readOnly ((writeReg_eq_none_iff r v _).mpr hr))

/-- Settles O34: the offsets are writable registers', so BUSY is the only cause that applies. -/
theorem writesWhileBusyAreLost : Obligations.WritesWhileBusyAreLost := by
  intro s off v m rest ha hb h
  obtain ⟨r, rfl, hr⟩ := exists_writable_offset h
  obtain ⟨s', hs'⟩ := writeReg_isSome_of_writable hr v (setAgenda rest s)
  exact step_bus_unchanged ha (serve_write_busy hb hs')

/-! ### Reads -/

/-- No register shows the model's own agenda. -/
@[simp] theorem readReg_setAgenda (r : Reg) (es : List Event) (s : State) : readReg r (setAgenda es s) = readReg r s := rfl

/-- CTRL's layout (R24). -/
theorem readReg_ctrl_toNat (s : State) : (readReg .ctrl s).toNat = s.alg.toNat + 2 ^ 8 * s.digits.toNat := by
  simp only [readReg, append_toNat, BitVec.toNat_ofNat]
  omega

/-- STATUS's layout (R29). -/
theorem readReg_status_toNat (s : State) : (readReg .status s).toNat =
    s.busy.toNat + 2 * s.done.toNat + 2 ^ 2 * s.err.toNat + 2 ^ 4 * s.errcode.toNat + 2 ^ 8 * s.msgv.toNat +
      2 ^ 9 * s.tv.toNat + 2 ^ 10 * s.vv.toNat + 2 ^ 11 * s.cv.toNat + 2 ^ 16 * s.lastop.toNat := by
  simp only [readReg, statusWord, append_toNat, BitVec.toNat_ofBool, BitVec.toNat_ofNat]
  omega

/-- DINFO's layout (R41). -/
theorem readReg_dinfo_toNat (s : State) : (readReg .dinfo s).toNat = s.vdigits.toNat + 2 ^ 8 * s.codelen.toNat := by
  simp only [readReg, append_toNat, BitVec.toNat_ofNat]
  omega

/-- A register of one field at bit 0, with reserved bits 0 above it (R27). -/
theorem zero_append_toNat {n : Nat} (m : Nat) (x : BitVec n) : (0#m ++ x).toNat = x.toNat := by
  rw [append_toNat, BitVec.toNat_ofNat, Nat.zero_mod, Nat.zero_mul, Nat.zero_add]

/-- Settles O36: a read as a step, the map of the registers, and the layout of each. -/
theorem readsAnswerAndChangeNothing : Obligations.ReadsAnswerAndChangeNothing := by
  refine ⟨fun s r m rest ha => step_bus_unchanged ha (by rw [serve_read, readReg_setAgenda]), fun off => exists_regOffset_eq,
    ⟨rfl, rfl, rfl, rfl, rfl, rfl, rfl, rfl, rfl, rfl, rfl, rfl, rfl, rfl, rfl, rfl, regOffset_digestW_toNat⟩,
    fun s => ?_⟩
  exact ⟨rfl, rfl, readReg_ctrl_toNat s, readReg_status_toNat s, zero_append_toNat 16 _, readReg_counterHi_toNat s,
    readReg_counterLo_toNat s, zero_append_toNat 28 _, zero_append_toNat 1 _, zero_append_toNat 1 _,
    readReg_dinfo_toNat s, fun _ => rfl, be32_toNat _ _ _ _, be32_toNat _ _ _ _, be32_toNat _ _ _ _,
    be32_toNat _ _ _ _, be32_toNat _ _ _ _⟩

/-! ### Writes while BUSY = 0 -/

/-- A digest write stores its word and keeps the others (R43). -/
theorem writeDigest_digest_getElem (k j : Fin 16) (v : Word) (s : State) :
    (writeDigest k v s).digest[j] = if j = k then v else s.digest[j] := by
  simp [Vector.getElem_set, Fin.ext_iff, eq_comm]

/-- A digest write sets its DVALID bit and keeps the others (R35). -/
theorem writeDigest_dvalid_getLsbD (k j : Fin 16) (v : Word) (s : State) :
    (writeDigest k v s).dvalid.getLsbD j.val = if j = k then true else s.dvalid.getLsbD j.val := by
  by_cases h : j = k
  · simp [h]
  · have hv : j.val ≠ k.val := Fin.val_ne_of_ne h
    simp [h, hv]

/-- Settles O37: each offset is a writable register's, and `step_write` gives the register's effect. -/
theorem writesHaveExactlyTheirEffect : Obligations.WritesHaveExactlyTheirEffect := by
  intro s off v m rest hb ha
  refine ⟨?ctrl, ?cmd, ?counterHi, ?counterLo, ?digest⟩
  case ctrl =>
    rintro rfl
    exact step_write (r := .ctrl) hb ha rfl
  case cmd =>
    rintro rfl
    exact step_write (r := .cmd) hb ha rfl
  case counterHi =>
    rintro rfl
    exact ⟨_, writeCounterHi_toNat v s, step_write (r := .counterHi) hb ha rfl⟩
  case counterLo =>
    rintro rfl
    exact ⟨_, writeCounterLo_toNat v s, step_write (r := .counterLo) hb ha rfl⟩
  case digest =>
    intro k hk
    obtain rfl : off = regOffset (.digestW k) := BitVec.eq_of_toNat_eq (hk.trans (regOffset_digestW_toNat k).symm)
    exact ⟨_, _, fun j => writeDigest_digest_getElem k j v s, fun j => writeDigest_dvalid_getLsbD k j v s,
      step_write (r := .digestW k) hb ha rfl⟩

end Sys2Proof.Machine
end

section
/-! PROOFS of the statements about the command word (spec/30_encoding.md): the opcode map, the decode table and what an illegal
word does at its completion. -/

namespace Sys2Proof.Machine

/-! ### The opcode map (R94) -/

/-- Each row of the map, read through `encode`. -/
@[simp] theorem decode_encode (i : Instr) : decode (encode i) = .command i := by
  cases i <;> decide

/-- The operation codes that the map leaves out. -/
theorem decode_reservedOpcode (op : Fin 16) (h : 7 ≤ op.val) :
    decode (BitVec.ofNat 32 op.val) = .illegal .reservedOpcode := by
  decide +revert

/-- Settles O5: the assigned rows are `decode_encode` at the seven commands, the others `decode_reservedOpcode`. -/
theorem commandWordsDecodeAsMapped : Obligations.CommandWordsDecodeAsMapped :=
  ⟨decode_encode .nop, decode_encode .encode, decode_encode .truncate, decode_encode .reduce, decode_encode .format,
    decode_encode .generate, decode_encode .clear, fun op h => ⟨_, decode_reservedOpcode op h⟩⟩

/-! ### Every word (R92) -/

/-- A nonzero RES makes a word illegal, whatever its OP. -/
theorem decode_of_resField_ne_zero {w : Word} (h : w.toNat / 2 ^ 4 ≠ 0) : decode w = .illegal .reservedBits := by
  rw [decode, if_pos (mt (resField_eq_zero_iff w).mp h)]

/-- A word whose RES is zero is the number in OP. -/
theorem word_eq_of_fields {w v : Word} (hres : w.toNat / 2 ^ 4 = 0) (hop : w.toNat % 2 ^ 4 = v.toNat) : w = v :=
  BitVec.eq_of_toNat_eq (by omega)

/-- A word whose RES is zero and whose OP is a command's code decodes to the command. -/
theorem decode_of_fields {w : Word} (i : Instr) (hres : w.toNat / 2 ^ 4 = 0) (hop : w.toNat % 2 ^ 4 = (encode i).toNat) :
    decode w = .command i := by
  rw [word_eq_of_fields hres hop, decode_encode]

/-- A word whose RES is zero and whose OP is no command's code is illegal. -/
theorem decode_of_reserved_fields {w : Word} (hres : w.toNat / 2 ^ 4 = 0) (hop : 7 ≤ w.toNat % 2 ^ 4) :
    decode w = .illegal .reservedOpcode := by
  have hw : w = BitVec.ofNat 32 (w.toNat % 2 ^ 4) := word_eq_of_fields hres (by simp only [BitVec.toNat_ofNat]; omega)
  rw [hw]
  exact decode_reservedOpcode ⟨w.toNat % 2 ^ 4, Nat.mod_lt _ (by decide)⟩ hop

/-! ### The completion of an illegal word (spec/60_exceptions.md R177) -/

/-- The engine's turn on an illegal word, once the agenda has moved on: code 1, and of the block only the completion's fields
change. -/
theorem engineTurn_setAgenda_illegal {s : State} {why : Illegal} (hb : s.busy = true) (h : decode s.pend = .illegal why)
    (rest : List Event) :
    engineTurn (setAgenda rest s) = .next { s with
      agenda := rest, busy := false, done := true, err := true, errcode := 1, trace := .completed 1 :: s.trace } :=
  engineTurn_illegal (s := setAgenda rest s) hb h

/-- Settles O6: RES decides first, then OP; an illegal word's completion is the engine's turn. -/
theorem everyWordDecodesAsTabled : Obligations.EveryWordDecodesAsTabled := by
  refine ⟨fun w => ⟨fun hres => ⟨_, decode_of_resField_ne_zero hres⟩, fun hres => ?table⟩, ?completion⟩
  case table =>
    exact ⟨decode_of_fields .nop hres, decode_of_fields .encode hres, decode_of_fields .truncate hres,
      decode_of_fields .reduce hres, decode_of_fields .format hres, decode_of_fields .generate hres,
      decode_of_fields .clear hres, fun hop => ⟨_, decode_of_reserved_fields hres hop⟩⟩
  case completion =>
    intro s why rest hb h ha
    rw [step_engine ha, engineTurn_setAgenda_illegal hb h]

end Sys2Proof.Machine
end

section
/-! PROOFS of the statements about the counter encoder (spec/40_counter_encoder.md). -/

namespace Sys2Proof.Machine

/-- The message byte i is the counter's bits `63 - 8*i` down to `56 - 8*i` (R111). -/
theorem encodeCounter_getElem_eq_extractLsb' (c : BitVec 64) (i : Fin 8) :
    (encodeCounter c)[i] = c.extractLsb' (56 - 8 * i.val) 8 :=
  encodeCounter_get c i

/-- Settles O13: the message is `encodeCounter` of COUNTER, and the effect is `execEncode_eq`. -/
theorem encodeWritesTheMessage : Obligations.EncodeWritesTheMessage :=
  ⟨rfl, fun s => ⟨encodeCounter s.counter, encodeCounter_getElem_eq_extractLsb' s.counter, execEncode_eq s⟩⟩

end Sys2Proof.Machine
end

section
/-! PROOFS of the statements about the truncation selector (spec/41_truncation.md). -/

namespace Sys2Proof.Machine

/-! ### What TRUNCATE does, by the two checks (R121) -/

theorem execTruncate_of_algOf_eq_none {s : State} (ha : algOf s.alg = none) :
    exec .truncate s = .next (raiseError .invalidAlgorithm s) := by
  rcases execTruncate_cases s with ⟨_, h⟩ | ⟨a, ha', _⟩
  · exact h
  · simp [ha] at ha'

theorem execTruncate_of_incomplete {s : State} {a : Alg} (ha : algOf s.alg = some a)
    (hd : digestComplete a s.dvalid = false) : exec .truncate s = .next (raiseError .digestIncomplete s) := by
  rcases execTruncate_cases s with ⟨ha', _⟩ | ⟨b, hb, ⟨_, h⟩ | ⟨hd', _⟩⟩
  · simp [ha] at ha'
  · exact h
  · obtain rfl : a = b := Option.some.inj (ha.symm.trans hb)
    simp [hd] at hd'

theorem execTruncate_of_complete {s : State} {a : Alg} (ha : algOf s.alg = some a)
    (hd : digestComplete a s.dvalid = true) :
    exec .truncate s = .next (complete 0 (clearCV (clearVV
      (setTrunc (truncOffset a s.digest) (truncValue s.digest (truncOffset a s.digest)) s)))) := by
  rcases execTruncate_cases s with ⟨ha', _⟩ | ⟨b, hb, ⟨hd', _⟩ | ⟨_, h⟩⟩
  · simp [ha] at ha'
  · obtain rfl : a = b := Option.some.inj (ha.symm.trans hb)
    simp [hd] at hd'
  · obtain rfl : a = b := Option.some.inj (ha.symm.trans hb)
    exact h

/-! ### The operands of TRUNCATE by the digest length -/

/-- The algorithm of a digest length in bytes: its words are the length's, its last byte the length's last (spec/10_state.md
R25). -/
theorem exists_algOf_of_length {alg : BitVec 2} {l : Nat}
    (h : (alg = 0 ∧ l = 20) ∨ (alg = 1 ∧ l = 32) ∨ (alg = 2 ∧ l = 64)) :
    ∃ a, algOf alg = some a ∧ l / 4 = digestWords a ∧ Fin.ofNat 64 (l - 1) = lastByte a := by
  rcases h with ⟨rfl, rfl⟩ | ⟨rfl, rfl⟩ | ⟨rfl, rfl⟩
  · exact ⟨.sha1, algOf_zero, rfl, rfl⟩
  · exact ⟨.sha256, algOf_one, rfl, rfl⟩
  · exact ⟨.sha512, algOf_two, rfl, rfl⟩

/-- The truncated value from the four digest bytes at the offset (R121). -/
theorem truncValue_toNat_digestByte (d : Vector Word 16) (off : BitVec 4) :
    (truncValue d off).toNat = ((digestByte d (Fin.ofNat 64 off.toNat)).toNat * 2 ^ 24 +
      (digestByte d (Fin.ofNat 64 (off.toNat + 1))).toNat * 2 ^ 16 +
      (digestByte d (Fin.ofNat 64 (off.toNat + 2))).toNat * 2 ^ 8 +
      (digestByte d (Fin.ofNat 64 (off.toNat + 3))).toNat) % 2 ^ 31 := by
  rw [truncValue_toNat, windowByte_eq, windowByte_eq, windowByte_eq, windowByte_eq]
  rfl

/-- Settles O15: the digest length gives the algorithm, and the two checks decide which of the three effects TRUNCATE has. -/
theorem truncateSelectsTheWindow : Obligations.TruncateSelectsTheWindow := by
  refine ⟨rfl, fun s => ⟨fun h3 => execTruncate_of_algOf_eq_none (algOf_eq_none.mpr h3), fun l hl => ?_⟩⟩
  obtain ⟨a, ha, hwords, hlast⟩ := exists_algOf_of_length hl
  rw [hwords, hlast, ← digestComplete_eq_false_iff, ← digestComplete_iff]
  refine ⟨fun hd => execTruncate_of_incomplete ha hd, fun hd => ?_⟩
  exact ⟨truncOffset a s.digest, truncValue s.digest (truncOffset a s.digest), truncOffset_toNat a s.digest,
    truncValue_toNat_digestByte s.digest _, execTruncate_of_complete ha hd⟩

end Sys2Proof.Machine
end

section
/-! PROOFS of the statements about the base-10 modulo reducer (spec/42_modulo_reducer.md). -/

namespace Sys2Proof.Machine

/-! ### What REDUCE does, by the two checks (R131) -/

theorem execReduce_of_illegal_digits {s : State} (hn : digitsLegal s.digits = false) :
    exec .reduce s = .next (raiseError .unsupportedDigits s) := by
  rcases execReduce_cases s with ⟨_, h⟩ | ⟨hn', _⟩ | ⟨hn', _⟩
  · exact h
  · simp [hn] at hn'
  · simp [hn] at hn'

theorem execReduce_of_no_trunc {s : State} (hn : digitsLegal s.digits = true) (ht : s.tv = false) :
    exec .reduce s = .next (raiseError .noTruncatedValue s) := by
  rcases execReduce_cases s with ⟨hn', _⟩ | ⟨_, _, h⟩ | ⟨_, ht', _⟩
  · simp [hn] at hn'
  · exact h
  · simp [ht] at ht'

theorem execReduce_of_trunc {s : State} (hn : digitsLegal s.digits = true) (ht : s.tv = true) :
    exec .reduce s = .next (complete 0 (clearCV (setValue (reduceMod s.trunc s.digits) s.digits s))) := by
  rcases execReduce_cases s with ⟨hn', _⟩ | ⟨_, ht', _⟩ | ⟨_, _, h⟩
  · simp [hn] at hn'
  · simp [ht] at ht'
  · exact h

/-- Settles O20: the DIGITS check and the TV check decide which of the three effects REDUCE has, and `reduceMod` is the
remainder. -/
theorem reduceTakesTheRemainder : Obligations.ReduceTakesTheRemainder := by
  refine ⟨rfl, fun s => ?_⟩
  rw [← digitsLegal_eq_false_iff, ← digitsLegal_iff]
  refine ⟨execReduce_of_illegal_digits, fun hn => ⟨execReduce_of_no_trunc hn, fun ht => ?_⟩⟩
  exact ⟨reduceMod s.trunc s.digits, reduceMod_toNat s.trunc s.digits, execReduce_of_trunc hn ht⟩

end Sys2Proof.Machine
end

section
/-! PROOFS of the statements about the decimal code formatter (spec/43_code_formatter.md). -/

namespace Sys2Proof.Machine

/-! ### What FORMAT does, by its one check (R141) -/

theorem execFormat_of_no_value {s : State} (hv : s.vv = false) :
    exec .format s = .next (raiseError .noReducedValue s) := by
  rcases execFormat_cases s with ⟨_, h⟩ | ⟨hv', _⟩
  · exact h
  · simp [hv] at hv'

theorem execFormat_of_value {s : State} (hv : s.vv = true) :
    exec .format s = .next (complete 0 (setCode (formatCode s.value s.vdigits) s.vdigits s)) := by
  rcases execFormat_cases s with ⟨hv', _⟩ | ⟨_, h⟩
  · simp [hv] at hv'
  · exact h

/-! ### The code bytes (R141) -/

/-- Below the length, byte j is the digit character of weight `10^(n-1-j)`. -/
theorem formatCode_getElem_toNat_of_lt (v : BitVec 31) {n : BitVec 4} {j : Fin 12} (h : j.val < n.toNat) :
    (formatCode v n)[j].toNat = 0x30 + v.toNat / 10 ^ (n.toNat - 1 - j.val) % 10 :=
  (congrArg BitVec.toNat (formatCode_get v n j)).trans (codeChar_toNat_of_lt h)

/-- From the length on, byte j is the padding byte. -/
theorem formatCode_getElem_eq_zero (v : BitVec 31) {n : BitVec 4} {j : Fin 12} (h : n.toNat ≤ j.val) :
    (formatCode v n)[j] = 0x00 :=
  (formatCode_get v n j).trans (codeChar_eq_zero h)

/-- Settles O22: the VV check decides which of the two effects FORMAT has, and the code is `formatCode` of VALUE and VDIGITS. -/
theorem formatWritesTheDecimalCode : Obligations.FormatWritesTheDecimalCode := by
  refine ⟨rfl, fun s => ⟨execFormat_of_no_value, fun hv _ _ => ?_⟩⟩
  exact ⟨formatCode s.value s.vdigits,
    fun _ => ⟨formatCode_getElem_toNat_of_lt s.value, formatCode_getElem_eq_zero s.value⟩, execFormat_of_value hv⟩

end Sys2Proof.Machine
end

section
/-! PROOFS of the statements about the composite and control commands (spec/44_composite_and_control.md). -/

namespace Sys2Proof.Machine

/-! ### What GENERATE does, by the three checks (R151) -/

theorem execGenerate_of_algOf_eq_none {s : State} (ha : algOf s.alg = none) :
    exec .generate s = .next (raiseError .invalidAlgorithm s) := by
  rcases execGenerate_cases s with ⟨_, h⟩ | ⟨a, ha', _⟩
  · exact h
  · simp [ha] at ha'

theorem execGenerate_of_illegal_digits {s : State} {a : Alg} (ha : algOf s.alg = some a)
    (hn : digitsLegal s.digits = false) : exec .generate s = .next (raiseError .unsupportedDigits s) := by
  rcases execGenerate_cases s with ⟨ha', _⟩ | ⟨_, _, ⟨_, h⟩ | ⟨hn', _⟩ | ⟨hn', _⟩⟩
  · simp [ha] at ha'
  · exact h
  · simp [hn] at hn'
  · simp [hn] at hn'

theorem execGenerate_of_incomplete {s : State} {a : Alg} (ha : algOf s.alg = some a)
    (hn : digitsLegal s.digits = true) (hd : digestComplete a s.dvalid = false) :
    exec .generate s = .next (raiseError .digestIncomplete s) := by
  rcases execGenerate_cases s with ⟨ha', _⟩ | ⟨b, hb, ⟨hn', _⟩ | ⟨_, _, h⟩ | ⟨_, hd', _⟩⟩
  · simp [ha] at ha'
  · simp [hn] at hn'
  · exact h
  · obtain rfl : a = b := Option.some.inj (ha.symm.trans hb)
    simp [hd] at hd'

/-- The stages' results are named, each from the one before. -/
theorem execGenerate_of_complete {s : State} {a : Alg} {off : BitVec 4} {t v : BitVec 31} (ha : algOf s.alg = some a)
    (hn : digitsLegal s.digits = true) (hd : digestComplete a s.dvalid = true) (hoff : truncOffset a s.digest = off)
    (ht : truncValue s.digest off = t) (hv : reduceMod t s.digits = v) :
    exec .generate s =
      .next (complete 0 (setCode (formatCode v s.digits) s.digits (setValue v s.digits (setTrunc off t s)))) := by
  subst hoff ht hv
  rcases execGenerate_cases s with ⟨ha', _⟩ | ⟨b, hb, ⟨hn', _⟩ | ⟨_, hd', _⟩ | ⟨_, _, h⟩⟩
  · simp [ha] at ha'
  · simp [hn] at hn'
  · obtain rfl : a = b := Option.some.inj (ha.symm.trans hb)
    simp [hd] at hd'
  · obtain rfl : a = b := Option.some.inj (ha.symm.trans hb)
    exact h

/-- Settles O24: the digest length gives the algorithm, the three checks decide which of the four effects GENERATE has, and the
results are those of the staged commands. -/
theorem generateRunsAllStages : Obligations.GenerateRunsAllStages := by
  refine ⟨rfl, fun s => ⟨fun h3 => execGenerate_of_algOf_eq_none (algOf_eq_none.mpr h3), fun l hl => ?_⟩⟩
  obtain ⟨a, ha, hwords, hlast⟩ := exists_algOf_of_length hl
  rw [hwords, hlast, ← digitsLegal_eq_false_iff, ← digitsLegal_iff, ← digestComplete_eq_false_iff, ← digestComplete_iff]
  refine ⟨execGenerate_of_illegal_digits ha, fun hn => ⟨execGenerate_of_incomplete ha hn, fun hd => ?_⟩⟩
  exact ⟨truncOffset a s.digest, truncValue s.digest _, reduceMod _ s.digits, formatCode _ s.digits,
    truncOffset_toNat a s.digest, truncValue_toNat_digestByte s.digest _, reduceMod_toNat _ s.digits,
    fun _ => ⟨formatCode_getElem_toNat_of_lt _, formatCode_getElem_eq_zero _⟩,
    execGenerate_of_complete ha hn hd rfl rfl rfl⟩

/-! ### NOP (R160) -/

/-- Settles O26: NOP is its completion, and its word's OP is 0. -/
theorem nopOnlyCompletes : Obligations.NopOnlyCompletes :=
  ⟨rfl, fun s => ⟨execNop_eq s, _, execNop_eq (accept (encode .nop) s), rfl⟩⟩

/-! ### CLEAR (R165) -/

/-- A completion shows in STATUS only (spec/70_reset_and_hazards.md R207). -/
theorem readReg_complete {r : Reg} (h : r ≠ .status) (e : BitVec 4) (s : State) :
    readReg r (complete e s) = readReg r s := by
  cases r with
  | status => exact absurd rfl h
  | id | ctrl | cmd | dvalid | counterHi | counterLo | msgW0 | msgW1 | offset | trunc | value | dinfo
  | codeW0 | codeW1 | codeW2 | digestW => rfl

/-- A cleared datapath reads as after reset. -/
theorem readReg_clearData {r : Reg} (hctrl : r ≠ .ctrl) (hhi : r ≠ .counterHi) (hlo : r ≠ .counterLo) (hst : r ≠ .status)
    (s : State) : readReg r (clearData s) = readReg r State.reset := by
  cases r with
  | ctrl => exact absurd rfl hctrl
  | counterHi => exact absurd rfl hhi
  | counterLo => exact absurd rfl hlo
  | status => exact absurd rfl hst
  | id | cmd | dvalid | msgW0 | msgW1 | offset | trunc | value | dinfo | codeW0 | codeW1 | codeW2 | digestW => rfl

/-- Settles O27: CLEAR completes with `clearData`, whose buffers are those of the reset state, and neither acceptance nor
completion shows in the registers named. -/
theorem clearZeroesTheDatapath : Obligations.ClearZeroesTheDatapath := by
  refine ⟨rfl, fun s => ⟨State.reset.msg, State.reset.digest, State.reset.code,
    reset_msg_byte, reset_digest_word, reset_code_byte, execClear_eq s, _, execClear_eq (accept (encode .clear) s), rfl, rfl,
    fun r hctrl hhi hlo hst => ?_⟩⟩
  rw [readReg_complete hst, readReg_clearData hctrl hhi hlo hst]

end Sys2Proof.Machine
end

section
/-! PROOFS of the statements about command errors and bus errors (spec/60_exceptions.md). -/

namespace Sys2Proof.Machine

/-! ### An illegal command word (R177) -/

/-- Settles O9: the first step is the write to CMD, the second the engine's turn on the word it left pending. -/
theorem illegalWordIsAcceptedAndRecorded : Obligations.IllegalWordIsAcceptedAndRecorded := by
  intro s w why m rest hw hb ha
  have haccept := step_write (r := .cmd) hb ha rfl
  exact ⟨_, _, haccept, (step_engine rfl).trans (engineTurn_setAgenda_illegal rfl hw rest), rfl, rfl⟩

/-! ### The cause of each bus error, by size, offset, direction and BUSY (R181) -/

/-- The kind is the transaction's first cause in the order of R181: each clause leaves out the sizes and offsets of the kinds
before it. -/
def BusError.Applies (t : Txn) (s : State) : BusError → Prop
  | .width => t.size ≠ .word ∨ t.off.toNat % 4 ≠ 0
  | .unmapped => t.size = .word ∧ t.off.toNat % 4 = 0 ∧ 0x80 ≤ t.off.toNat
  | .readOnly => t.size = .word ∧ (∃ v, t.access = .write v) ∧
      t.off ∈ [0x00#8, 0x0C#8, 0x10#8, 0x1C#8, 0x20#8, 0x24#8, 0x28#8, 0x2C#8, 0x30#8, 0x34#8, 0x38#8, 0x3C#8]
  | .busy => t.size = .word ∧ s.busy = true ∧ (∃ v, t.access = .write v) ∧
      (t.off ∈ [0x04#8, 0x08#8, 0x14#8, 0x18#8] ∨ (t.off.toNat % 4 = 0 ∧ 0x40 ≤ t.off.toNat ∧ t.off.toNat ≤ 0x7C))

/-- A writable register's offset is among those R67 lists; the converse of `exists_writable_offset`. -/
theorem regOffset_writable {r : Reg} (h : r ∉ readOnlyRegs) :
    regOffset r ∈ [0x04#8, 0x08#8, 0x14#8, 0x18#8] ∨
      ((regOffset r).toNat % 4 = 0 ∧ 0x40 ≤ (regOffset r).toNat ∧ (regOffset r).toNat ≤ 0x7C) := by
  cases r with
  | ctrl | cmd | counterHi | counterLo => exact .inl (by decide)
  | digestW k =>
    rw [regOffset_digestW_toNat]
    exact .inr (by omega)
  | id | status | dvalid | msgW0 | msgW1 | offset | trunc | value | dinfo | codeW0 | codeW1 | codeW2 =>
    exact absurd (by decide) h

/-- Where a cause applies, the response is its error and the block stays as it was. -/
theorem serve_of_applies {k : BusError} {t : Txn} {s : State} (h : k.Applies t s) : serve t s = (s, .error k) := by
  obtain ⟨access, off, size⟩ := t
  cases k with
  | width => exact serve_width (by rwa [Decidable.not_and_iff_not_or_not]) s
  | unmapped =>
    obtain ⟨hs, ha, ho⟩ := h
    exact serve_unmapped hs ha ho s
  | readOnly =>
    obtain ⟨rfl, ⟨v, rfl⟩, ho⟩ := h
    obtain ⟨r, hr, rfl⟩ : ∃ r ∈ readOnlyRegs, regOffset r = off := List.mem_map.mp ho
    exact serve_readOnly ((writeReg_eq_none_iff r v s).mpr hr)
  | busy =>
    obtain ⟨rfl, hb, ⟨v, rfl⟩, ho⟩ := h
    obtain ⟨r, rfl, hr⟩ := exists_writable_offset ho
    obtain ⟨s', hs'⟩ := writeReg_isSome_of_writable hr v s
    exact serve_write_busy hb hs'

/-- Where no cause applies, the response is OK. -/
theorem applies_or_serve_ok (t : Txn) (s : State) : (∃ k, BusError.Applies t s k) ∨ ∃ v, (serve t s).2 = .ok v := by
  obtain ⟨access, off, size⟩ := t
  by_cases hw : size ≠ .word ∨ off.toNat % 4 ≠ 0
  · exact .inl ⟨.width, hw⟩
  obtain ⟨rfl, ha⟩ : size = .word ∧ off.toNat % 4 = 0 := by simpa using hw
  by_cases ho : 0x80 ≤ off.toNat
  · exact .inl ⟨.unmapped, rfl, ha, ho⟩
  obtain ⟨r, rfl⟩ := exists_regOffset_eq ha (by omega)
  cases access with
  | read => exact .inr ⟨_, congrArg Prod.snd (serve_read r s)⟩
  | write v =>
    by_cases hr : r ∈ readOnlyRegs
    · exact .inl ⟨.readOnly, rfl, ⟨v, rfl⟩, List.mem_map_of_mem (f := regOffset) hr⟩
    cases hb : s.busy with
    | true => exact .inl ⟨.busy, rfl, hb, ⟨v, rfl⟩, regOffset_writable hr⟩
    | false =>
      obtain ⟨s', hs'⟩ := writeReg_isSome_of_writable hr v s
      exact .inr ⟨0, congrArg Prod.snd (serve_write hb hs')⟩

/-- The response is an error exactly when its cause applies. -/
theorem serve_snd_eq_error_iff {k : BusError} {t : Txn} {s : State} : (serve t s).2 = .error k ↔ k.Applies t s := by
  refine ⟨fun h => ?_, fun h => congrArg Prod.snd (serve_of_applies h)⟩
  rcases applies_or_serve_ok t s with ⟨k', hk'⟩ | ⟨v, hv⟩
  · obtain rfl : k' = k := by simpa [serve_of_applies hk'] using h
    exact hk'
  · simp [hv] at h

/-! ### A transaction and the model's own fields -/

/-- No transaction, whatever it writes, touches the agenda or the trace; `serveBus` notes the response. -/
theorem serve_fst_agenda_trace (t : Txn) (s : State) :
    (serve t s).1.agenda = s.agenda ∧ (serve t s).1.trace = s.trace := by
  rcases serve_cases t s with ⟨_, h⟩ | ⟨_, _, _, _, h⟩ | ⟨r, v, s', _, _, _, _, hw, h⟩
  · simp [h]
  · simp [h]
  · rw [h]
    rcases writeReg_eq_some hw with ⟨_, rfl⟩ | ⟨_, rfl⟩ | ⟨_, rfl⟩ | ⟨_, rfl⟩ | ⟨_, _, rfl⟩ <;> exact ⟨rfl, rfl⟩

/-- Settles O35: each kind is answered exactly where its cause applies (`serve_snd_eq_error_iff`), and then the state is the one
before (`serve_of_applies`). What a host sees of an error is `dataSeen` and `kindSeen` by definition. -/
theorem busErrorsAreClassifiedAndHarmless : Obligations.BusErrorsAreClassifiedAndHarmless := by
  refine ⟨fun s t m rest ha => ?_, fun k => ⟨rfl, rfl⟩⟩
  obtain ⟨hagenda, htrace⟩ := serve_fst_agenda_trace t (setAgenda rest s)
  refine ⟨_, (serve t (setAgenda rest s)).2, step_bus ha, hagenda, congrArg _ htrace, serve_snd_eq_error_iff,
    serve_snd_eq_error_iff, serve_snd_eq_error_iff, serve_snd_eq_error_iff, fun k hk => ?_⟩
  rw [serveBus, serve_of_applies (serve_snd_eq_error_iff.mp hk)]
  rfl

end Sys2Proof.Machine
end

section
/-! PROOFS of the statements about reset and the acceptance of a command word (spec/70_reset_and_hazards.md). -/

namespace Sys2Proof.Machine

/-- Settles O2: the step notes the reset on top of `resetBlock`, which takes the agenda and the trace alone from its state. -/
theorem resetEventRestoresEveryComponent : Obligations.ResetEventRestoresEveryComponent := by
  intro s p rest ha
  have hreset : resetBlock (setAgenda rest s) = { State.reset with agenda := rest, trace := s.trace } := rfl
  rw [step_reset ha, hreset, record]

/-- Settles O10: CMD stands at offset 0x08 and its write is `accept w`, for every `w` (`step_write`, R206). -/
theorem acceptanceSetsThePendingCommand : Obligations.AcceptanceSetsThePendingCommand := by
  intro s w m rest hb ha
  have hcmd : writeReg .cmd w (setAgenda rest s) = some (accept w (setAgenda rest s)) := rfl
  exact step_write hb ha hcmd

end Sys2Proof.Machine
end

section
/-! FACTS about every command at once: its checks, its effect, and `exec` as the two together (spec/70_reset_and_hazards.md
R207, spec/60_exceptions.md R178). -/

namespace Sys2Proof.Machine

/-- The first check of a command that fails, in the order of spec/60_exceptions.md R170; none where the command succeeds. -/
def checkError (i : Instr) (s : State) : Option CmdError :=
  match i with
  | .nop | .encode | .clear => none
  | .truncate =>
    match algOf s.alg with
    | none => some .invalidAlgorithm
    | some a => if digestComplete a s.dvalid then none else some .digestIncomplete
  | .reduce =>
    if digitsLegal s.digits then if s.tv then none else some .noTruncatedValue
    else some .unsupportedDigits
  | .format => if s.vv then none else some .noReducedValue
  | .generate =>
    match algOf s.alg with
    | none => some .invalidAlgorithm
    | some a =>
      if digitsLegal s.digits then if digestComplete a s.dvalid then none else some .digestIncomplete
      else some .unsupportedDigits

/-- A truncation under an algorithm, the later stages' flags cleared (R121). -/
def truncated (a : Alg) (s : State) : State :=
  clearCV (clearVV (setTrunc (truncOffset a s.digest) (truncValue s.digest (truncOffset a s.digest)) s))

/-- A reduction to DIGITS places, the later stage's flag cleared (R131). -/
def reduced (s : State) : State := clearCV (setValue (reduceMod s.trunc s.digits) s.digits s)

/-- A formatting (R141). -/
def formatted (s : State) : State := setCode (formatCode s.value s.vdigits) s.vdigits s

/-- The algorithm that ALG selects. Where it selects none, the commands that ask for one have failed their first check, and this
one stands for nothing. -/
def selectedAlg (s : State) : Alg := (algOf s.alg).getD .sha1

/-- What a command does to the datapath where its checks pass. GENERATE is its three stages in a row (R151). -/
def effect (i : Instr) (s : State) : State :=
  match i with
  | .nop => s
  | .encode => setMsg (encodeCounter s.counter) s
  | .truncate => truncated (selectedAlg s) s
  | .reduce => reduced s
  | .format => formatted s
  | .generate => formatted (reduced (truncated (selectedAlg s) s))
  | .clear => clearData s

/-- The state a command completes in. -/
def outcome (i : Instr) (s : State) : State :=
  match checkError i s with
  | none => complete 0 (effect i s)
  | some e => raiseError e s

theorem outcome_of_ok {i : Instr} {s : State} (h : checkError i s = none) : outcome i s = complete 0 (effect i s) := by
  simp only [outcome, h]

theorem outcome_of_error {i : Instr} {s : State} {e : CmdError} (h : checkError i s = some e) :
    outcome i s = raiseError e s := by
  simp only [outcome, h]

/-- A command is its checks and its effect. -/
theorem exec_eq (i : Instr) (s : State) : exec i s = .next (outcome i s) := by
  cases i with
  | nop | encode | clear => rfl
  | truncate =>
    rcases execTruncate_cases s with ⟨ha, h⟩ | ⟨a, ha, ⟨hd, h⟩ | ⟨hd, h⟩⟩
    · rw [h, outcome_of_error (e := .invalidAlgorithm) (by simp [checkError, ha])]
    · rw [h, outcome_of_error (e := .digestIncomplete) (by simp [checkError, ha, hd])]
    · rw [h, outcome_of_ok (by simp [checkError, ha, hd]), effect, selectedAlg, ha]
      rfl
  | reduce =>
    rcases execReduce_cases s with ⟨hn, h⟩ | ⟨hn, ht, h⟩ | ⟨hn, ht, h⟩
    · rw [h, outcome_of_error (e := .unsupportedDigits) (by simp [checkError, hn])]
    · rw [h, outcome_of_error (e := .noTruncatedValue) (by simp [checkError, hn, ht])]
    · rw [h, outcome_of_ok (by simp [checkError, hn, ht])]
      rfl
  | format =>
    rcases execFormat_cases s with ⟨hv, h⟩ | ⟨hv, h⟩
    · rw [h, outcome_of_error (e := .noReducedValue) (by simp [checkError, hv])]
    · rw [h, outcome_of_ok (by simp [checkError, hv])]
      rfl
  | generate =>
    rcases execGenerate_cases s with ⟨ha, h⟩ | ⟨a, ha, ⟨hn, h⟩ | ⟨hn, hd, h⟩ | ⟨hn, hd, h⟩⟩
    · rw [h, outcome_of_error (e := .invalidAlgorithm) (by simp [checkError, ha])]
    · rw [h, outcome_of_error (e := .unsupportedDigits) (by simp [checkError, ha, hn])]
    · rw [h, outcome_of_error (e := .digestIncomplete) (by simp [checkError, ha, hn, hd])]
    · rw [h, outcome_of_ok (by simp [checkError, ha, hn, hd]), effect, selectedAlg, ha]
      rfl

/-- The state after a command is the one `outcome` names. -/
theorem eq_outcome_of_exec {i : Instr} {s t : State} (h : exec i s = .next t) : t = outcome i s := by
  rw [exec_eq] at h
  exact (Host.Outcome.next.inj h).symm

/-! ### When the checks pass -/

theorem checkError_truncate_eq_none_iff {s : State} :
    checkError .truncate s = none ↔ ∃ a, algOf s.alg = some a ∧ digestComplete a s.dvalid = true := by
  cases ha : algOf s.alg <;> simp [checkError, ha]

theorem checkError_reduce_eq_none_iff {s : State} :
    checkError .reduce s = none ↔ digitsLegal s.digits = true ∧ s.tv = true := by
  cases hn : digitsLegal s.digits <;> simp [checkError, hn]

theorem checkError_format_eq_none_iff {s : State} : checkError .format s = none ↔ s.vv = true := by
  simp [checkError]

theorem checkError_generate_eq_none_iff {s : State} :
    checkError .generate s = none ↔
      ∃ a, algOf s.alg = some a ∧ digitsLegal s.digits = true ∧ digestComplete a s.dvalid = true := by
  cases ha : algOf s.alg <;> cases hn : digitsLegal s.digits <;> simp [checkError, ha, hn]

/-! ### What a command depends on -/

/-- The checks read ALG, DIGITS, DVALID, TV and VV only. -/
theorem checkError_congr (i : Instr) {s u : State} (ha : u.alg = s.alg) (hn : u.digits = s.digits)
    (hd : u.dvalid = s.dvalid) (ht : u.tv = s.tv) (hv : u.vv = s.vv) : checkError i u = checkError i s := by
  simp only [checkError, ha, hn, hd, ht, hv]

/-- A change `g` of the state that the checks do not see, that commutes with the effect, and of which a completion keeps `f`,
is `f` after the command. -/
theorem outcome_update {i : Instr} {s : State} {f g : State → State} (hcheck : checkError i (g s) = checkError i s)
    (heffect : effect i (g s) = g (effect i s)) (hcomplete : ∀ e u, complete e (g u) = f (complete e u)) :
    outcome i (g s) = f (outcome i s) := by
  cases h : checkError i s with
  | none => rw [outcome_of_ok (hcheck.trans h), outcome_of_ok h, heffect, hcomplete]
  | some e => rw [outcome_of_error (hcheck.trans h), outcome_of_error h, raiseError, raiseError, hcomplete]

/-- The same for `exec`. -/
theorem exec_update {i : Instr} {s : State} {f g : State → State} (hcheck : checkError i (g s) = checkError i s)
    (heffect : effect i (g s) = g (effect i s)) (hcomplete : ∀ e u, complete e (g u) = f (complete e u)) :
    ∃ t, exec i s = .next t ∧ exec i (g s) = .next (f t) :=
  ⟨_, exec_eq i s, (exec_eq i (g s)).trans (congrArg _ (outcome_update hcheck heffect hcomplete))⟩

end Sys2Proof.Machine
end

section
/-! PROOFS of the statements about the block's invariant (spec/10_state.md, section 9): it holds at reset, and each update that a
step is made of keeps it. An update's proof names the clauses it touches and takes the others from the state before. -/

namespace Sys2Proof.Safety

open Sys2Proof.Machine

/-- Settles O3: every clause is about the fixed state of R50. -/
theorem invariantHoldsAtReset : Obligations.InvariantHoldsAtReset where
  reduced := nofun
  staged := nofun
  formatted := nofun
  doneIdle := nofun
  noMessage _ := by decide
  noTruncation _ := ⟨rfl, rfl⟩
  errIffCode := by decide
  busyNoError := nofun
  codeKnown := by decide
  vdigitsRange := by decide
  codelenRange := by decide
  codeBytes := by decide
  lastopPend := by decide
  unwrittenZero k _ := reset_digest_word k

/-! ### The model's own fields, and what a bus write changes -/

theorem inv_record {s : State} (h : Inv s) (o : Observation) : Inv (record o s) := { h with }

theorem inv_setAgenda {s : State} (h : Inv s) (es : List Event) : Inv (setAgenda es s) := { h with }

theorem inv_resetBlock (s : State) : Inv (resetBlock s) := { invariantHoldsAtReset with }

theorem inv_writeDigest {s : State} (h : Inv s) (k : Fin 16) (v : Word) : Inv (writeDigest k v s) where
  __ := h
  unwrittenZero j hj := by
    have hdigest := writeDigest_digest_getElem k j v s
    rw [writeDigest_dvalid_getLsbD] at hj
    split at hj
    next => cases hj
    next hjk => exact (hdigest.trans (if_neg hjk)).trans (h.unwrittenZero j hj)

/-- Acceptance clears the code, and LASTOP follows PEND (R206). -/
theorem inv_accept {s : State} (h : Inv s) (w : Word) : Inv (accept w s) where
  __ := h
  doneIdle := nofun
  errIffCode := by simp
  busyNoError _ := rfl
  codeKnown := by simp
  lastopPend := rfl

theorem inv_writeReg {s s' : State} {r : Reg} {v : Word} (h : Inv s) (hw : writeReg r v s = some s') : Inv s' := by
  rcases writeReg_eq_some hw with ⟨_, rfl⟩ | ⟨_, rfl⟩ | ⟨_, rfl⟩ | ⟨_, rfl⟩ | ⟨k, _, rfl⟩
  · exact { h with }
  · exact inv_accept h v
  · exact { h with }
  · exact { h with }
  · exact inv_writeDigest h k v

theorem inv_serve {s : State} (h : Inv s) (t : Txn) : Inv (serve t s).1 := by
  rcases serve_cases t s with ⟨_, hs⟩ | ⟨_, _, _, _, hs⟩ | ⟨_, _, _, _, _, _, _, hw, hs⟩
  · rwa [hs]
  · rwa [hs]
  · rw [hs]
    exact inv_writeReg h hw

/-! ### What a completion changes -/

/-- A completion with a code of R170. -/
theorem inv_complete {s : State} (h : Inv s) {e : BitVec 4} (he : e.toNat ≤ 6) : Inv (complete e s) where
  __ := h
  doneIdle _ := rfl
  errIffCode := by simp
  busyNoError := nofun
  codeKnown := he

theorem inv_setMsg {s : State} (h : Inv s) (m : Vector Byte 8) : Inv (setMsg m s) where
  __ := h
  noMessage := nofun

theorem inv_clearData {s : State} (h : Inv s) : Inv (clearData s) where
  __ := h
  reduced := nofun
  staged := nofun
  formatted := nofun
  noMessage _ := invariantHoldsAtReset.noMessage rfl
  noTruncation _ := ⟨rfl, rfl⟩
  vdigitsRange := by simp
  codelenRange := by simp
  codeBytes := invariantHoldsAtReset.codeBytes
  unwrittenZero k _ := reset_digest_word k

/-- A truncation takes the flags of the later stages back, so that their clauses ask nothing. -/
theorem inv_truncated {s : State} (h : Inv s) (a : Alg) : Inv (truncated a s) where
  __ := h
  reduced := nofun
  staged := nofun
  formatted := nofun
  noTruncation := nofun

/-- A reduction of a valid TRUNC to a legal number of digits. -/
theorem inv_reduced {s : State} (h : Inv s) (hn : digitsLegal s.digits = true) (ht : s.tv = true) : Inv (reduced s) := by
  obtain ⟨hlo, hhi⟩ := (digitsLegal_iff s.digits).mp hn
  exact {
    h with
    reduced := fun _ => ⟨hlo, hhi, reduceMod_toNat s.trunc s.digits⟩
    staged := fun _ => ht
    formatted := nofun
    vdigitsRange := hhi }

/-- The bytes of a formatted code are digit characters below its length and 0 from there on (R42). -/
theorem formatCode_bytes (v : BitVec 31) (n : BitVec 4) (j : Fin 12) :
    (j.val < n.toNat → 0x30 ≤ (formatCode v n)[j.val].toNat ∧ (formatCode v n)[j.val].toNat ≤ 0x39) ∧
      (n.toNat ≤ j.val → (formatCode v n)[j.val] = 0) := by
  refine ⟨fun h => ?_, formatCode_getElem_eq_zero v⟩
  have hbyte : (formatCode v n)[j.val].toNat = _ := formatCode_getElem_toNat_of_lt v h
  omega

/-- A formatting of a valid VALUE. -/
theorem inv_formatted {s : State} (h : Inv s) (hv : s.vv = true) : Inv (formatted s) where
  __ := h
  formatted _ := ⟨hv, rfl, rfl⟩
  codelenRange := h.vdigitsRange
  codeBytes := formatCode_bytes s.value s.vdigits

/-- A command's effect, where its checks pass. -/
theorem inv_effect {i : Instr} {s : State} (h : Inv s) (hok : checkError i s = none) : Inv (effect i s) := by
  cases i with
  | nop => exact h
  | encode => exact inv_setMsg h _
  | clear => exact inv_clearData h
  | truncate => exact inv_truncated h _
  | reduce =>
    obtain ⟨hn, ht⟩ := checkError_reduce_eq_none_iff.mp hok
    exact inv_reduced h hn ht
  | format => exact inv_formatted h (checkError_format_eq_none_iff.mp hok)
  | generate =>
    obtain ⟨_, _, hn, _⟩ := checkError_generate_eq_none_iff.mp hok
    exact inv_formatted (inv_reduced (inv_truncated h _) hn rfl) rfl

theorem inv_raiseError {s : State} (h : Inv s) (e : CmdError) : Inv (raiseError e s) :=
  inv_complete h (errorCode_range e).2

theorem inv_outcome {s : State} (h : Inv s) (i : Instr) : Inv (outcome i s) := by
  cases hc : checkError i s with
  | none =>
    rw [outcome_of_ok hc]
    exact inv_complete (inv_effect h hc) (by decide)
  | some e =>
    rw [outcome_of_error hc]
    exact inv_raiseError h e

theorem inv_engineTurn {s t : State} (h : Inv s) (ht : engineTurn s = .next t) : Inv t := by
  rcases engineTurn_cases ht with ⟨_, rfl⟩ | ⟨i, u, _, _, hu, rfl⟩ | ⟨_, _, _, rfl⟩
  · exact h
  · rw [eq_outcome_of_exec hu]
    exact inv_record (inv_outcome h i) _
  · exact inv_record (inv_raiseError h _) _

theorem inv_serveBus {s : State} (h : Inv s) (m : Master) (t : Txn) : Inv (serveBus m t s) :=
  inv_record (inv_serve h t) _

theorem inv_serveSys {s : State} (h : Inv s) (m : Master) (x : SysTxn) : Inv (serveSys m x s) := by
  rw [serveSys]
  split
  · exact inv_serveBus h m _
  · exact h

/-- Settles O4: whoever's turn it is, the step is one of the updates above. -/
theorem everyStepKeepsTheInvariant : Obligations.EveryStepKeepsTheInvariant := by
  intro s t h hst
  rcases step_cases hst with ⟨_, ht⟩ | ⟨e, es, _, ⟨m, x, _, rfl⟩ | ⟨m, x, _, rfl⟩ | ⟨_, ht⟩ | ⟨p, _, rfl⟩⟩
  · exact inv_engineTurn h ht
  · exact inv_serveBus (inv_setAgenda h es) m x
  · exact inv_serveSys (inv_setAgenda h es) m x
  · exact inv_engineTurn (inv_setAgenda h es) ht
  · exact inv_record (inv_resetBlock _) _

end Sys2Proof.Safety
end

section
/-! PROOF of the statement that the decoder and the encoder of the command word agree (spec/30_encoding.md, sections 1 and 2). -/

namespace Sys2Proof.Machine

/-- The opcode map reaches every assigned operation code (R94). -/
theorem exists_encode_eq {n : Nat} (h : n < 7) : ∃ i, (encode i).toNat = n := by
  interval_cases n
  exacts [⟨.nop, rfl⟩, ⟨.encode, rfl⟩, ⟨.truncate, rfl⟩, ⟨.reduce, rfl⟩, ⟨.format, rfl⟩, ⟨.generate, rfl⟩,
    ⟨.clear, rfl⟩]

/-- A word that the decoder takes for a command has RES zero and an assigned OP, so it is that operation code's word, and
reading it back gives the same command. -/
theorem eq_encode_of_decode {w : Word} {i : Instr} (h : decode w = .command i) : w = encode i := by
  have hres : w.toNat / 2 ^ 4 = 0 := by
    by_contra hne
    simp [decode_of_resField_ne_zero hne] at h
  have hop : w.toNat % 2 ^ 4 < 7 := by
    by_contra hge
    simp [decode_of_reserved_fields hres (by omega)] at h
  obtain ⟨j, hj⟩ := exists_encode_eq hop
  obtain rfl : w = encode j := word_eq_of_fields hres hj.symm
  rw [decode_encode] at h
  cases h
  rfl

/-- Settles O7: `decode_encode` one way, `eq_encode_of_decode` the other. -/
theorem decodeAndEncodeAgree : Obligations.DecodeAndEncodeAgree :=
  ⟨fun i _ => decode_encode i, fun _ _ => eq_encode_of_decode⟩

end Sys2Proof.Machine
end

section
/-! PROOFS of the statements about polling and the hosts' duties (spec/70_reset_and_hazards.md, sections 4 and 6): the record of
a step keeps showing an idle engine only where the engine is idle. -/

namespace Sys2Proof.Safety

open Sys2Proof.Machine

/-! ### What a transaction shows of BUSY -/

theorem isCmdWrite_iff {t : Txn} : isCmdWrite t = true ↔ target t = some .cmd ∧ ∃ v, t.access = .write v := by
  obtain ⟨access, off, size⟩ := t
  rw [isCmdWrite]
  split
  next htarget haccess => exact iff_of_true rfl ⟨htarget, _, haccess⟩
  next hne =>
    simp only [Bool.false_eq_true, false_iff, not_and, not_exists]
    exact fun htarget v haccess => hne v htarget haccess

theorem target_of_regOffset {t : Txn} {r : Reg} (hs : t.size = .word) (ho : regOffset r = t.off) : target t = some r :=
  target_eq_some_iff.mpr ⟨hs, ho⟩

/-- BUSY after a transaction is BUSY before it, but for an acceptance, which sets it (R206). -/
theorem serve_busy (t : Txn) (s : State) : (serve t s).1.busy = (s.busy || isAcceptance t (serve t s).2) := by
  rcases serve_cases t s with ⟨_, h⟩ | ⟨r, haccess, _, _, h⟩ | ⟨r, v, s', haccess, hs, ho, _, hw, h⟩
  · simp [h, isAcceptance]
  · have hread : isCmdWrite t = false := by
      rw [← Bool.not_eq_true, isCmdWrite_iff]
      simp [haccess]
    simp [h, isAcceptance, hread]
  · have htarget := target_of_regOffset hs ho
    have hcmd : isCmdWrite t = (r == .cmd) := by
      rw [Bool.eq_iff_iff, isCmdWrite_iff]
      simp [htarget, haccess]
    rw [h, isAcceptance, hcmd]
    rcases writeReg_eq_some hw with ⟨rfl, rfl⟩ | ⟨rfl, rfl⟩ | ⟨rfl, rfl⟩ | ⟨rfl, rfl⟩ | ⟨k, rfl, rfl⟩ <;> simp

/-- A poll that shows BUSY = 0 was served by an idle block, and leaves it as it was. -/
theorem serve_of_isIdlePoll {t : Txn} {s : State} (h : isIdlePoll t (serve t s).2 = true) :
    (serve t s).1 = s ∧ s.busy = false := by
  rcases serve_cases t s with ⟨_, hs⟩ | ⟨r, _, hsize, ho, hs⟩ | ⟨_, _, _, haccess, _, _, _, _, hs⟩
  · simp [hs, isIdlePoll] at h
  · rw [hs] at h ⊢
    obtain ⟨⟨_, hstatus⟩, hbit⟩ : (t.access = .read ∧ target t = some .status) ∧ (readReg r s).getLsbD 0 = false := by
      simpa [isIdlePoll, isStatusRead] using h
    obtain rfl : r = .status := Option.some.inj ((target_of_regOffset hsize ho).symm.trans hstatus)
    rw [status_busy] at hbit
    exact ⟨rfl, hbit⟩
  · simp [hs, isIdlePoll, isStatusRead, haccess] at h

/-! ### The polling invariant -/

/-- Settles O44: the record of the reset state is empty. -/
theorem pollingInvariantHoldsAtReset : Obligations.PollingInvariantHoldsAtReset :=
  ⟨rfl, rfl, fun _ => rfl, rfl⟩

theorem pollInv_setAgenda {s : State} (h : PollInv s) (es : List Event) : PollInv (setAgenda es s) := h

/-- After a transaction the record shows an idle engine for one of two reasons: this was the poll, or it was no acceptance and
the record showed one before. -/
theorem pollInv_serveBus {s : State} (h : PollInv s) (m : Master) (t : Txn) : PollInv (serveBus m t s) := by
  intro hknown
  rw [serveBus, record_trace, (serve_fst_agenda_trace t s).2, knownIdle, Bool.or_eq_true, Bool.and_eq_true,
    Bool.not_eq_true'] at hknown
  rw [serveBus, record_busy]
  rcases hknown with hpoll | ⟨hacc, hbefore⟩
  · obtain ⟨hsame, hbusy⟩ := serve_of_isIdlePoll hpoll
    rw [hsame, hbusy]
  · rw [serve_busy, hacc, h hbefore, Bool.or_false]

theorem pollInv_serveSys {s : State} (h : PollInv s) (m : Master) (x : SysTxn) : PollInv (serveSys m x s) := by
  rw [serveSys]
  split
  · exact pollInv_serveBus h m _
  · exact h

theorem outcome_busy (i : Instr) (s : State) : (outcome i s).busy = false := by
  cases h : checkError i s with
  | none => rw [outcome_of_ok h, complete_busy]
  | some e => rw [outcome_of_error h, raiseError_busy]

/-- After the engine's turn BUSY is 0, whatever the record shows (R207). -/
theorem engineTurn_busy {s t : State} (h : engineTurn s = .next t) : t.busy = false := by
  rcases engineTurn_cases h with ⟨hb, rfl⟩ | ⟨i, u, _, _, hu, rfl⟩ | ⟨_, _, _, rfl⟩
  · exact hb
  · rw [record_busy, eq_outcome_of_exec hu, outcome_busy]
  · rfl

/-- Settles O45: a transaction shows its effect on BUSY in the record, and the engine's turn and a reset leave BUSY = 0. -/
theorem everyStepKeepsThePollingInvariant : Obligations.EveryStepKeepsThePollingInvariant := by
  intro s t h hst
  rcases step_cases hst with ⟨_, ht⟩ | ⟨e, es, _, ⟨m, x, _, rfl⟩ | ⟨m, x, _, rfl⟩ | ⟨_, ht⟩ | ⟨p, _, rfl⟩⟩
  · exact fun _ => engineTurn_busy ht
  · exact pollInv_serveBus (pollInv_setAgenda h es) m x
  · exact pollInv_serveSys (pollInv_setAgenda h es) m x
  · exact fun _ => engineTurn_busy ht
  · exact fun _ => rfl

/-- Settles O46: the polling invariant says that the block is idle, and an idle block takes the write. -/
theorem polledWritesAreAccepted : Obligations.PolledWritesAreAccepted := by
  intro s r v m rest hinv hknown hr ha
  have hwritable : r ∉ readOnlyRegs := by
    rcases hr with rfl | rfl | rfl | rfl | ⟨k, rfl⟩ <;> simp [readOnlyRegs]
  obtain ⟨s', hw⟩ := writeReg_isSome_of_writable hwritable v (setAgenda rest s)
  have hidle : (setAgenda rest s).busy = false := hinv hknown
  refine ⟨_, step_write hidle ha hw, ?_⟩
  have htrace := (serve_fst_agenda_trace ⟨.write v, regOffset r, .word⟩ (setAgenda rest s)).2
  rw [serve_write hidle hw] at htrace
  rw [record_trace, htrace, setAgenda_trace]

/-- Settles O60: a polled run keeps what the record showed before it, so the block is idle, and with an empty agenda only the
engine could act. -/
theorem endedRunsStayAsTheyAre : Obligations.EndedRunsStayAsTheyAre := by
  intro s run before hinv htrace hbefore hpolled
  have hbusy : s.busy = false := hinv (htrace ▸ knownIdle_append_of_polled hbefore hpolled)
  exact ⟨hbusy, fun ha => (step_nil ha).trans (engineTurn_idle hbusy)⟩

/-! ### The duties -/

/-- A read that leaves the host awaiting nothing showed BUSY = 0, or it awaited nothing before. -/
theorem dutyRead_not_awaiting {d0 d : Duty} {r : Reg} {v : Word} (h : dutyRead d0 r v = some d) (haw : d.awaiting = false) :
    (r = .status ∧ v.getLsbD 0 = false) ∨ d0.awaiting = false := by
  rw [dutyRead] at h
  split at h
  next hr =>
    cases h
    rcases Bool.and_eq_false_iff.mp haw with h0 | hbit
    · exact .inr h0
    · exact .inl ⟨hr, hbit⟩
  next =>
    split at h
    next => cases h
    next =>
      cases h
      exact .inr haw

/-- A transaction that leaves the hosts awaiting nothing was a poll that showed BUSY = 0, or no acceptance by hosts that awaited
nothing before it. -/
theorem dutyStep_served_not_awaiting {d0 d : Duty} {m : Master} {t : Txn} {r : Response}
    (h : dutyStep d0 (.served m t r) = some d) (haw : d.awaiting = false) :
    isIdlePoll t r = true ∨ (isAcceptance t r = false ∧ d0.awaiting = false) := by
  obtain ⟨access, off, size⟩ := t
  cases r with
  | error k =>
    refine .inr ⟨rfl, ?_⟩
    cases access with
    | read =>
      cases h
      exact haw
    | write w =>
      simp only [dutyStep] at h
      split at h
      next => cases h
      next hok => simpa using (Bool.or_eq_false_iff.mp (Bool.not_eq_true _ ▸ hok)).1
  | ok v =>
    simp only [dutyStep] at h
    cases htarget : target ⟨access, off, size⟩ with
    | none =>
      rw [htarget] at h
      cases h
      exact .inr ⟨by simp [isAcceptance, isCmdWrite, htarget], haw⟩
    | some q =>
      rw [htarget] at h
      cases access with
      | read =>
        rcases dutyRead_not_awaiting h haw with ⟨rfl, hbit⟩ | h0
        · have hpoll : isStatusRead ⟨.read, off, size⟩ = true := by simp [isStatusRead, htarget]
          exact .inl (by rw [isIdlePoll, hpoll, hbit]; rfl)
        · exact .inr ⟨by simp [isAcceptance, isCmdWrite], h0⟩
      | write w =>
        obtain ⟨hq, h0⟩ := dutyWrite_not_awaiting h haw
        refine .inr ⟨?_, h0⟩
        rw [isAcceptance, ← Bool.not_eq_true, isCmdWrite_iff, htarget]
        simp [hq]

/-- Settles O58, by induction on the record: each observation keeps the connection between what the hosts await and what the
record shows. -/
theorem dutifulHostsKnowTheEngineIsIdle : Obligations.DutifulHostsKnowTheEngineIsIdle := by
  intro os
  induction os with
  | nil => exact fun _ _ _ => rfl
  | cons o os ih =>
    intro d hd haw
    obtain ⟨d0, hd0, hstep⟩ := duties_cons hd
    cases o with
    | completed e =>
      obtain rfl : d0 = d := by simpa [dutyStep] using hstep
      exact ih d0 hd0 haw
    | wasReset p => rfl
    | served m t r =>
      rcases dutyStep_served_not_awaiting hstep haw with hpoll | ⟨hacc, h0⟩
      · simp [knownIdle, hpoll]
      · simp [knownIdle, hacc, ih d0 hd0 h0]

end Sys2Proof.Safety
end

section
/-! PROOFS of the statements about every command: its completion, its errors, what it leaves alone (spec/30_encoding.md R93) and
what it does not read (spec/10_state.md, section 7). -/

namespace Sys2Proof.Machine

open Sys2Proof.Safety

/-! ### Completion (spec/70_reset_and_hazards.md R207) -/

/-- No effect touches CTRL, COUNTER, PEND, LASTOP or the model's own fields. -/
theorem effect_frame (i : Instr) (s : State) :
    (effect i s).alg = s.alg ∧ (effect i s).digits = s.digits ∧ (effect i s).counter = s.counter ∧
      (effect i s).pend = s.pend ∧ (effect i s).lastop = s.lastop ∧ (effect i s).agenda = s.agenda ∧
      (effect i s).trace = s.trace := by
  cases i <;> simp [effect, truncated, reduced, formatted]

/-- Settles O11: a command completes with code 0 after its effect, or with the code of a failed check. -/
theorem everyCommandCompletes : Obligations.EveryCommandCompletes := by
  intro i s
  refine ⟨outcome i s, exec_eq i s, ?_⟩
  cases h : checkError i s with
  | none =>
    rw [outcome_of_ok h]
    exact ⟨rfl, rfl, by simp, by simp, effect_frame i s⟩
  | some e =>
    rw [outcome_of_error h]
    exact ⟨rfl, rfl, by simp, (errorCode_range e).2, rfl, rfl, rfl, rfl, rfl, rfl, rfl⟩

/-! ### Errors (spec/60_exceptions.md R178, R180) -/

/-- A command that completes with a nonzero code failed a check, whose code it is. -/
theorem checkError_of_errcode_ne_zero {i : Instr} {s : State} (h : (outcome i s).errcode ≠ 0) :
    ∃ e, checkError i s = some e ∧ outcome i s = raiseError e s := by
  cases hc : checkError i s with
  | none => exact absurd (congrArg State.errcode (outcome_of_ok hc)) h
  | some e => exact ⟨e, rfl, outcome_of_error hc⟩

/-- A command that completes with code 0 passed its checks. -/
theorem checkError_of_errcode_eq_zero {i : Instr} {s : State} (h : (outcome i s).errcode = 0) : checkError i s = none := by
  cases hc : checkError i s with
  | none => rfl
  | some e =>
    rw [outcome_of_error hc] at h
    exact absurd h (errorCode_range e).1

/-- Settles O29: a failed command is `raiseError`, whose code is not 0. -/
theorem failedCommandChangesOnlyStatus : Obligations.FailedCommandChangesOnlyStatus := by
  intro i s t hex hne
  obtain rfl := eq_outcome_of_exec hex
  obtain ⟨e, _, hout⟩ := checkError_of_errcode_ne_zero hne
  have herr : (errorCode e != 0) = true := by simpa using (errorCode_range e).1
  rw [hout, raiseError, complete, herr]

/-- Settles O30: the failure and the acceptance before it kept what the checks read, so the same check fails again. -/
theorem failedCommandFailsAgain : Obligations.FailedCommandFailsAgain := by
  intro i s t u hex hne halg hdigits hdvalid htv hvv
  obtain rfl := eq_outcome_of_exec hex
  obtain ⟨e, hcheck, hout⟩ := checkError_of_errcode_ne_zero hne
  rw [hout] at halg hdigits hdvalid htv hvv
  have hagain : checkError i (accept (encode i) u) = some e :=
    (checkError_congr i halg hdigits hdvalid htv hvv).trans hcheck
  refine ⟨_, exec_eq i _, ?_⟩
  rw [outcome_of_error hagain, hout]
  rfl

/-! ### What a command leaves alone (spec/30_encoding.md R93) -/

/-- An encoding shows in the message words. -/
theorem readReg_setMsg {r : Reg} (h : r ∉ [Reg.status, .msgW0, .msgW1]) (m : Vector Byte 8) (s : State) :
    readReg r (setMsg m s) = readReg r s := by
  cases r with
  | status | msgW0 | msgW1 => simp at h
  | id | ctrl | cmd | dvalid | counterHi | counterLo | offset | trunc | value | dinfo | codeW0 | codeW1 | codeW2 | digestW => rfl

/-- A truncation shows in OFFSET and TRUNC. -/
theorem readReg_truncated {r : Reg} (h : r ∉ [Reg.status, .offset, .trunc]) (a : Alg) (s : State) :
    readReg r (truncated a s) = readReg r s := by
  cases r with
  | status | offset | trunc => simp at h
  | id | ctrl | cmd | dvalid | counterHi | counterLo | msgW0 | msgW1 | value | dinfo | codeW0 | codeW1 | codeW2 | digestW => rfl

/-- A reduction shows in VALUE and DINFO. -/
theorem readReg_reduced {r : Reg} (h : r ∉ [Reg.status, .value, .dinfo]) (s : State) :
    readReg r (reduced s) = readReg r s := by
  cases r with
  | status | value | dinfo => simp at h
  | id | ctrl | cmd | dvalid | counterHi | counterLo | msgW0 | msgW1 | offset | trunc | codeW0 | codeW1 | codeW2 | digestW => rfl

/-- A formatting shows in the code words and DINFO. -/
theorem readReg_formatted {r : Reg} (h : r ∉ [Reg.status, .codeW0, .codeW1, .codeW2, .dinfo]) (s : State) :
    readReg r (formatted s) = readReg r s := by
  cases r with
  | status | codeW0 | codeW1 | codeW2 | dinfo => simp at h
  | id | ctrl | cmd | dvalid | counterHi | counterLo | msgW0 | msgW1 | offset | trunc | value | digestW => rfl

/-- CLEAR shows in the result registers. -/
theorem readReg_clearData_of_not_result {r : Reg} (h : isResult r = false) (hst : r ≠ .status) (s : State) :
    readReg r (clearData s) = readReg r s := by
  cases r with
  | status => exact absurd rfl hst
  | id | ctrl | cmd | counterHi | counterLo => rfl
  | dvalid | msgW0 | msgW1 | offset | trunc | value | dinfo | codeW0 | codeW1 | codeW2 | digestW => cases h

/-- The registers outside the command's row, under its effect. -/
theorem readReg_effect {i : Instr} {r : Reg} (h : writes i r = false) (hst : r ≠ .status) (s : State) :
    readReg r (effect i s) = readReg r s := by
  cases i with
  | nop => rfl
  | encode => exact readReg_setMsg (by simp_all [writes]) _ s
  | reduce => exact readReg_reduced (by simp_all [writes]) s
  | format => exact readReg_formatted (by simp_all [writes]) s
  | clear => exact readReg_clearData_of_not_result h hst s
  | truncate => exact readReg_truncated (by simp_all [writes]) _ s
  | generate =>
    rw [effect, readReg_formatted (by simp_all [writes]), readReg_reduced (by simp_all [writes]),
      readReg_truncated (by simp_all [writes])]

/-- Settles O51: a failed command shows in STATUS only, and a successful one in its effect. -/
theorem commandsChangeOnlyTheirRegisters : Obligations.CommandsChangeOnlyTheirRegisters := by
  intro i s t r hex hst hw
  obtain rfl := eq_outcome_of_exec hex
  cases hc : checkError i s with
  | none => rw [outcome_of_ok hc, readReg_complete hst, readReg_effect hw hst]
  | some e => rw [outcome_of_error hc, raiseError, readReg_complete hst]

/-- A successful command leaves alone the flags, digit counts and digest outside its row. -/
theorem effect_flags (i : Instr) (s : State) :
    (i ≠ .encode → i ≠ .clear → (effect i s).msgv = s.msgv) ∧
    (i ≠ .truncate → i ≠ .generate → i ≠ .clear → (effect i s).tv = s.tv) ∧
    (i ≠ .truncate → i ≠ .reduce → i ≠ .generate → i ≠ .clear → (effect i s).vv = s.vv) ∧
    (i = .nop ∨ i = .encode → (effect i s).cv = s.cv) ∧
    (i ≠ .reduce → i ≠ .generate → i ≠ .clear → (effect i s).vdigits = s.vdigits) ∧
    (i ≠ .format → i ≠ .generate → i ≠ .clear → (effect i s).codelen = s.codelen) ∧
    (i ≠ .clear → (effect i s).digest = s.digest ∧ (effect i s).dvalid = s.dvalid) := by
  cases i <;> simp [effect, truncated, reduced, formatted]

/-- Settles O52: completion touches none of them. -/
theorem commandsChangeOnlyTheirFlags : Obligations.CommandsChangeOnlyTheirFlags := by
  intro i s t hex
  obtain rfl := eq_outcome_of_exec hex
  cases hc : checkError i s with
  | none =>
    rw [outcome_of_ok hc]
    exact effect_flags i s
  | some e => simp [outcome_of_error hc]

/-- Settles O28: CLEAR writes every component but those the two states agree in. -/
theorem clearForgetsTheDigest : Obligations.ClearForgetsTheDigest := by
  intro s s' halg hdigits hcounter hpend hlastop hagenda htrace
  refine ⟨_, execClear_eq s, ?_⟩
  rw [execClear_eq, complete, complete, clearData, clearData, halg, hdigits, hcounter, hpend, hlastop, hagenda, htrace]

/-! ### What a command does not read (spec/10_state.md, sections 4, 6 and 7) -/

/-- Settles O49: ALG, DIGITS and COUNTER each stand in no other command's checks and effect. -/
theorem configurationIsReadOnlyWhereSpecified : Obligations.ConfigurationIsReadOnlyWhereSpecified := by
  intro i s
  refine ⟨fun htruncate hgenerate a => ?alg, fun hreduce hgenerate n => ?digits, fun hencode c => ?counter⟩
  case alg =>
    cases i with
    | truncate => exact absurd rfl htruncate
    | generate => exact absurd rfl hgenerate
    | nop | encode | reduce | format | clear =>
      exact exec_update (g := fun u => { u with alg := a }) rfl rfl fun _ _ => rfl
  case digits =>
    cases i with
    | reduce => exact absurd rfl hreduce
    | generate => exact absurd rfl hgenerate
    | nop | encode | truncate | format | clear =>
      exact exec_update (g := fun u => { u with digits := n }) rfl rfl fun _ _ => rfl
  case counter =>
    cases i with
    | encode => exact absurd rfl hencode
    | nop | truncate | reduce | format | generate | clear =>
      exact exec_update (g := fun u => { u with counter := c }) rfl rfl fun _ _ => rfl

/-- Settles O50: no check and no effect reads these components, and a completion writes four of them itself. -/
theorem resultsHaveNoHiddenInput : Obligations.ResultsHaveNoHiddenInput := by
  intro i s p l e b d r a tr
  refine exec_update (f := fun u => { u with pend := p, lastop := l, agenda := a, trace := tr })
    (g := fun u => { u with pend := p, lastop := l, busy := b, done := d, err := r, errcode := e, agenda := a, trace := tr })
    rfl ?_ fun _ _ => rfl
  cases i <;> rfl

end Sys2Proof.Machine
end

section
/-! PROOFS of the statements about the datapath's values (spec/20_memory.md, section 5; spec/40 to 44): byte order, what the
truncation reads, the remainder, the numeral a code spells, and GENERATE against its stages. -/

namespace Sys2Proof.Machine

open Sys2Proof.Safety

/-! ### Byte order (spec/20_memory.md R70, spec/40_counter_encoder.md) -/

/-- `be32_byte` as arithmetic. -/
theorem be32_byte_toNat (b : Fin 4 → Byte) (j : Fin 4) :
    (b j).toNat = (be32 (b 0) (b 1) (b 2) (b 3)).toNat / 2 ^ (24 - 8 * j.val) % 2 ^ 8 := by
  rw [← Nat.shiftRight_eq_div_pow, ← BitVec.extractLsb'_toNat, be32_byte]

theorem digestByte_toNat (d : Vector Word 16) (i : Fin 64) :
    (digestByte d i).toNat = d[i.val / 4].toNat / 2 ^ (24 - 8 * (i.val % 4)) % 2 ^ 8 := by
  rw [digestByte, BitVec.extractLsb'_toNat, Nat.shiftRight_eq_div_pow]

/-- Settles O16: a word of the message or the code is BE32 of its four bytes. -/
theorem byteStreamsArePackedBigEndian : Obligations.ByteStreamsArePackedBigEndian := by
  intro s
  refine ⟨digestByte_toNat s.digest, fun i => ?msg, fun j => ?code⟩
  case msg =>
    have hw0 := be32_byte_toNat fun j => s.msg[j.val]
    have hw1 := be32_byte_toNat fun j => s.msg[4 + j.val]
    fin_cases i
    exacts [hw0 0, hw0 1, hw0 2, hw0 3, hw1 0, hw1 1, hw1 2, hw1 3]
  case code =>
    have hw0 := be32_byte_toNat fun j => s.code[j.val]
    have hw1 := be32_byte_toNat fun j => s.code[4 + j.val]
    have hw2 := be32_byte_toNat fun j => s.code[8 + j.val]
    fin_cases j
    exacts [hw0 0, hw0 1, hw0 2, hw0 3, hw1 0, hw1 1, hw1 2, hw1 3, hw2 0, hw2 1, hw2 2, hw2 3]

/-- Four counter bytes in a row are 32 counter bits in a row. -/
theorem be32_extractLsb' (c : BitVec 64) (p : Nat) :
    be32 (c.extractLsb' (p + 24) 8) (c.extractLsb' (p + 16) 8) (c.extractLsb' (p + 8) 8) (c.extractLsb' p 8) =
      c.extractLsb' p 32 := by
  rw [be32, BitVec.extractLsb'_append_extractLsb'_eq_extractLsb' (by rfl),
    BitVec.extractLsb'_append_extractLsb'_eq_extractLsb' (by rfl),
    BitVec.extractLsb'_append_extractLsb'_eq_extractLsb' (by rfl)]

/-- Settles O14: the message bytes are the counter's, in order. -/
theorem messageWordsAreTheCounterWords : Obligations.MessageWordsAreTheCounterWords := by
  intro s t hex
  obtain rfl := eq_outcome_of_exec hex
  exact ⟨be32_extractLsb' s.counter 32, be32_extractLsb' s.counter 0⟩

/-! ### What the truncation reads (spec/41_truncation.md, corner cases) -/

/-- The last byte of a digest lies beyond every window and within the words the algorithm needs. -/
theorem lastByte_range (a : Alg) : 19 ≤ (lastByte a).val ∧ (lastByte a).val / 4 < digestWords a := by
  cases a <;> decide

theorem five_le_digestWords (a : Alg) : 5 ≤ digestWords a := by
  cases a <;> decide

theorem digestByte_congr {d d' : Vector Word 16} {i : Fin 64} (h : d'[i.val / 4] = d[i.val / 4]) :
    digestByte d' i = digestByte d i := by
  rw [digestByte, digestByte, h]

theorem digestComplete_congr {a : Alg} {v v' : BitVec 16} (h : ∀ k, k < digestWords a → v'.getLsbD k = v.getLsbD k) :
    digestComplete a v' = digestComplete a v := by
  rw [Bool.eq_iff_iff, digestComplete_iff, digestComplete_iff]
  exact forall₂_congr fun k hk => by rw [h k hk]

/-- The offset is read from the low nibble of the last byte. -/
theorem truncOffset_congr {a : Alg} {d d' : Vector Word 16}
    (h : (digestByte d' (lastByte a)).toNat % 16 = (digestByte d (lastByte a)).toNat % 16) :
    truncOffset a d' = truncOffset a d :=
  BitVec.eq_of_toNat_eq ((truncOffset_toNat a d').trans (h.trans (truncOffset_toNat a d).symm))

/-- The window is read from bytes 0 to 18 (R122). -/
theorem truncValue_congr {d d' : Vector Word 16} (off : BitVec 4)
    (h : ∀ i : Fin 64, i.val < 19 → digestByte d' i = digestByte d i) : truncValue d' off = truncValue d off := by
  have hwindow : ∀ j, windowByte d' off j = windowByte d off j := fun j => h _ (by simp only; omega)
  rw [truncValue, truncValue, truncWindow, truncWindow, hwindow, hwindow, hwindow, hwindow]

/-- A truncation keeps a change of the digest that its offset and its window do not show. -/
theorem truncated_update {a : Alg} {s : State} {d : Vector Word 16} (v : BitVec 16)
    (hoff : truncOffset a d = truncOffset a s.digest) (hwindow : ∀ off, truncValue d off = truncValue s.digest off) :
    truncated a { s with digest := d, dvalid := v } = { truncated a s with digest := d, dvalid := v } := by
  simp only [truncated, hoff, hwindow]
  rfl

/-- Settles O17: the last byte and every window lie within the words the algorithm needs. -/
theorem wordsBeyondTheDigestAreIgnored : Obligations.WordsBeyondTheDigestAreIgnored := by
  intro s l d v i hi hl hagree
  obtain ⟨a, ha, hwords, _⟩ := exists_algOf_of_length hl
  rw [hwords] at hagree
  have hbyte (j : Fin 64) (hj : j.val / 4 < digestWords a) : digestByte d j = digestByte s.digest j :=
    digestByte_congr (hagree ⟨j.val / 4, by omega⟩ hj).1
  have hcomplete : digestComplete a v = digestComplete a s.dvalid :=
    digestComplete_congr fun k hk => (hagree ⟨k, hk.trans_le (digestWords_le a)⟩ hk).2
  have hoff : truncOffset a d = truncOffset a s.digest := truncOffset_congr (by rw [hbyte _ (lastByte_range a).2])
  have hwindow (off) : truncValue d off = truncValue s.digest off :=
    truncValue_congr off fun j hj => hbyte j (by have := five_le_digestWords a; omega)
  have hsel : selectedAlg s = a := by rw [selectedAlg, ha]; rfl
  have htrunc := truncated_update v hoff hwindow
  rw [← hsel] at htrunc
  rcases hi with rfl | rfl
  · refine exec_update (g := fun u => { u with digest := d, dvalid := v }) ?_ htrunc fun _ _ => rfl
    simp only [checkError, ha, hcomplete]
  · refine exec_update (g := fun u => { u with digest := d, dvalid := v }) ?_
      (congrArg (fun u => formatted (reduced u)) htrunc) fun _ _ => rfl
    simp only [checkError, ha, hcomplete]

/-- Settles O18: the offset takes the low nibble of the last byte, and no window reaches that byte. -/
theorem onlyTheLowNibbleOfTheLastByteMatters : Obligations.OnlyTheLowNibbleOfTheLastByteMatters := by
  intro s l d hl hbyte hnibble
  obtain ⟨a, ha, _, hlast⟩ := exists_algOf_of_length hl
  have hlen : l - 1 = (lastByte a).val := by
    rw [← hlast]
    rcases hl with ⟨_, rfl⟩ | ⟨_, rfl⟩ | ⟨_, rfl⟩ <;> rfl
  rw [hlast] at hnibble
  have hwindow (off) : truncValue d off = truncValue s.digest off :=
    truncValue_congr off fun j hj => hbyte j (by have := (lastByte_range a).1; omega)
  have hsel : selectedAlg s = a := by rw [selectedAlg, ha]; rfl
  have htrunc := truncated_update s.dvalid (truncOffset_congr hnibble) hwindow
  rw [← hsel] at htrunc
  exact exec_update (g := fun u => { u with digest := d }) rfl htrunc fun _ _ => rfl

/-- Four bytes have their low 31 bits set exactly when they are 7F FF FF FF or FF FF FF FF. -/
theorem low31_eq_max_iff {b0 b1 b2 b3 : Nat} (h0 : b0 < 256) (h1 : b1 < 256) (h2 : b2 < 256) (h3 : b3 < 256) :
    (b0 * 2 ^ 24 + b1 * 2 ^ 16 + b2 * 2 ^ 8 + b3) % 2 ^ 31 = 2147483647 ↔
      (b0 = 0x7F ∨ b0 = 0xFF) ∧ b1 = 0xFF ∧ b2 = 0xFF ∧ b3 = 0xFF := by
  omega

/-- Settles O19, by `truncValue_toNat_digestByte` at the offset that the truncation left. -/
theorem largestTruncatedValue : Obligations.LargestTruncatedValue := by
  intro s t hex hok
  obtain rfl := eq_outcome_of_exec hex
  rw [outcome_of_ok (checkError_of_errcode_eq_zero hok)]
  have hvalue := truncValue_toNat_digestByte s.digest (truncOffset (selectedAlg s) s.digest)
  simp only [effect, truncated, complete_trunc, complete_offset, clearCV_trunc, clearCV_offset, clearVV_trunc,
    clearVV_offset, setTrunc_trunc, setTrunc_offset, hvalue, Fin.forall_fin_succ]
  rw [low31_eq_max_iff (BitVec.isLt _) (BitVec.isLt _) (BitVec.isLt _) (BitVec.isLt _)]
  simp

/-! ### The remainder (spec/42_modulo_reducer.md, arithmetic law) -/

/-- Settles O21: `reduceMod` is the remainder of `Nat`, and ten digits are more than 31 bits hold. -/
theorem reducedValueIsTheUniqueRemainder : Obligations.ReducedValueIsTheUniqueRemainder := by
  intro s t hex hok
  obtain rfl := eq_outcome_of_exec hex
  have hvalue : (outcome .reduce s).value.toNat = s.trunc.toNat % 10 ^ s.digits.toNat := by
    rw [outcome_of_ok (checkError_of_errcode_eq_zero hok)]
    exact reduceMod_toNat s.trunc s.digits
  refine ⟨?below, ?unique, ?atMost, ?tenDigits⟩
  case below =>
    rw [hvalue]
    exact Nat.mod_lt _ (by positivity)
  case unique =>
    intro q r hqr hr
    rw [hvalue, hqr, Nat.mul_add_mod, Nat.mod_eq_of_lt hr]
  case atMost =>
    rw [hvalue]
    exact Nat.mod_le _ _
  case tenDigits =>
    intro h10
    have hbound : s.trunc.toNat < 10 ^ s.digits.toNat := s.trunc.isLt.trans (by rw [h10]; decide)
    exact BitVec.eq_of_toNat_eq (hvalue.trans (Nat.mod_eq_of_lt hbound))

/-! ### The numeral a code spells (spec/43_code_formatter.md R142) -/

theorem numeral_append_singleton (bs : List Byte) (b : Byte) : numeral (bs ++ [b]) = 10 * numeral bs + (b.toNat - 0x30) := by
  simp [numeral]

/-- The digit that each place adds. -/
theorem div_pow_succ_digit {n j : Nat} (h : j < n) (v : Nat) :
    10 * (v / 10 ^ (n - j)) + v / 10 ^ (n - 1 - j) % 10 = v / 10 ^ (n - (j + 1)) := by
  have hn : n - j = n - 1 - j + 1 := by omega
  have hn' : n - (j + 1) = n - 1 - j := by omega
  rw [hn, hn', pow_succ, ← Nat.div_div_eq_div_mul, Nat.div_add_mod]

/-- The first j bytes of a code of n places spell the value without its last n - j digits. -/
theorem numeral_take_formatCode {v : BitVec 31} {n : BitVec 4} (hn : n.toNat ≤ 10) (hv : v.toNat < 10 ^ n.toNat) :
    ∀ j, j ≤ n.toNat → numeral ((formatCode v n).toList.take j) = v.toNat / 10 ^ (n.toNat - j) := by
  intro j
  induction j with
  | zero =>
    intro _
    rw [Nat.sub_zero, Nat.div_eq_of_lt hv]
    rfl
  | succ j ih =>
    intro hj
    have hlen : j < (formatCode v n).toList.length := by simp; omega
    have hbyte : ((formatCode v n).toList[j]).toNat = 0x30 + v.toNat / 10 ^ (n.toNat - 1 - j) % 10 := by
      rw [Vector.getElem_toList]
      exact formatCode_getElem_toNat_of_lt v (j := ⟨j, by omega⟩) hj
    rw [← List.take_concat_get' _ j hlen, numeral_append_singleton, ih (by omega), hbyte, Nat.add_sub_cancel_left,
      div_pow_succ_digit hj]

theorem numeral_formatCode {v : BitVec 31} {n : BitVec 4} (hn : n.toNat ≤ 10) (hv : v.toNat < 10 ^ n.toNat) :
    numeral ((formatCode v n).toList.take n.toNat) = v.toNat := by
  rw [numeral_take_formatCode hn hv _ le_rfl, Nat.sub_self, pow_zero, Nat.div_one]

/-- Settles O23: FORMAT writes `formatCode` of VALUE and VDIGITS. -/
theorem codeSpellsTheValue : Obligations.CodeSpellsTheValue := by
  intro s hv _ hn hvalue
  refine ⟨_, execFormat_of_value hv, rfl, numeral_formatCode hn hvalue, fun j hj => ?_⟩
  exact (formatCode_bytes s.value s.vdigits j).1 hj

/-- Settles O57: the invariant says that VALUE is TRUNC reduced to VDIGITS digits, and FORMAT spells VALUE. -/
theorem formatSpellsTheReducedTruncation : Obligations.FormatSpellsTheReducedTruncation := by
  intro s hinv hv
  obtain ⟨hlo, hhi, hvalue⟩ := hinv.reduced hv
  refine ⟨hlo, hhi, _, execFormat_of_value hv, rfl, ?_⟩
  have hbound : s.value.toNat < 10 ^ s.vdigits.toNat := by
    rw [hvalue]
    exact Nat.mod_lt _ (by positivity)
  exact (numeral_formatCode hhi hbound).trans hvalue

/-! ### GENERATE against its stages (spec/44_composite_and_control.md, section 1) -/

/-- A command that was accepted and completed with code 0 passed its checks, and the state is its effect, completed. -/
theorem command_of_ok {i : Instr} {s t : State} (h : command i s = .next t) (hok : t.errcode = 0) :
    checkError i (accept (encode i) s) = none ∧ t = complete 0 (effect i (accept (encode i) s)) := by
  obtain rfl := eq_outcome_of_exec h
  have hcheck := checkError_of_errcode_eq_zero hok
  exact ⟨hcheck, outcome_of_ok hcheck⟩

/-! An acceptance moves past a stage, and of two acceptances with a completion between them the later stands. -/

theorem truncated_accept (a : Alg) (w : Word) (s : State) : truncated a (accept w s) = accept w (truncated a s) := rfl

theorem reduced_accept (w : Word) (s : State) : reduced (accept w s) = accept w (reduced s) := rfl

theorem formatted_accept (w : Word) (s : State) : formatted (accept w s) = accept w (formatted s) := rfl

theorem accept_complete_accept (w w' : Word) (e : BitVec 4) (s : State) :
    accept w (complete e (accept w' s)) = accept w s := rfl

/-- Settles O25: acceptance and completion between the stages touch nothing a stage reads, and the checks of GENERATE are those
of TRUNCATE and of REDUCE. -/
theorem generateEqualsTheStagedCommands : Obligations.GenerateEqualsTheStagedCommands := by
  refine ⟨fun s s1 s2 s3 _ h1 hok1 h2 hok2 h3 hok3 => ?staged, fun s l hl hn hd => ?codes⟩
  case staged =>
    obtain ⟨htruncate, rfl⟩ := command_of_ok h1 hok1
    obtain ⟨hreduce, rfl⟩ := command_of_ok h2 hok2
    obtain ⟨_, rfl⟩ := command_of_ok h3 hok3
    obtain ⟨a, ha, hd⟩ := checkError_truncate_eq_none_iff.mp htruncate
    obtain ⟨hn, _⟩ := checkError_reduce_eq_none_iff.mp hreduce
    have hgenerate : checkError .generate (accept (encode .generate) s) = none :=
      checkError_generate_eq_none_iff.mpr ⟨a, ha, hn, hd⟩
    refine ⟨rfl, rfl, ?_⟩
    rw [command, exec_eq, outcome_of_ok hgenerate]
    have hsel (w : Word) : selectedAlg (accept w s) = selectedAlg s := rfl
    simp only [effect, hsel, truncated_accept, reduced_accept, formatted_accept, accept_complete_accept]
    generalize formatted (reduced (truncated (selectedAlg s) s)) = u
    rfl
  case codes =>
    obtain ⟨a, ha, hwords, _⟩ := exists_algOf_of_length hl
    rw [hwords, ← digestComplete_eq_false_iff] at hd
    rw [← digitsLegal_eq_false_iff] at hn
    exact ⟨_, _, execGenerate_of_illegal_digits (s := accept (encode .generate) s) ha hn, rfl,
      execTruncate_of_incomplete (s := accept (encode .truncate) s) ha hd, rfl⟩

end Sys2Proof.Machine
end

section
/-! PROOFS of the statements about single steps and runs (spec/70_reset_and_hazards.md, sections 3, 4 and 6): the engine's turn as
one completion, that every step answers a state, and that a pending command finishes. -/

namespace Sys2Proof.Machine

/-! ### The engine's turn (R207) -/

/-- The state in which the pending word completes. -/
def completion (s : State) : State :=
  match decode s.pend with
  | .command i => outcome i s
  | .illegal _ => raiseError .illegalCmd s

theorem completion_of_command {s : State} {i : Instr} (h : decode s.pend = .command i) : completion s = outcome i s := by
  simp only [completion, h]

theorem completion_of_illegal {s : State} {why : Illegal} (h : decode s.pend = .illegal why) :
    completion s = raiseError .illegalCmd s := by
  simp only [completion, h]

theorem engineTurn_of_busy {s : State} (hb : s.busy = true) :
    engineTurn s = .next (record (.completed (completion s).errcode) (completion s)) := by
  cases h : decode s.pend with
  | command i =>
    rw [engineTurn_command hb h, exec_eq, completion_of_command h]
    rfl
  | illegal why =>
    rw [engineTurn_illegal hb h, completion_of_illegal h]
    rfl

theorem outcome_agenda (i : Instr) (s : State) : (outcome i s).agenda = s.agenda := by
  cases h : checkError i s with
  | none =>
    obtain ⟨_, _, _, _, _, hagenda, _⟩ := effect_frame i s
    rw [outcome_of_ok h, complete_agenda, hagenda]
  | some e => rw [outcome_of_error h, raiseError_agenda]

theorem completion_agenda (s : State) : (completion s).agenda = s.agenda := by
  rw [completion]
  split
  · exact outcome_agenda _ s
  · rfl

/-- The engine's turn answers a state with BUSY = 0 and the agenda it had. -/
theorem exists_engineTurn (s : State) : ∃ t, engineTurn s = .next t ∧ t.agenda = s.agenda := by
  cases hb : s.busy with
  | false => exact ⟨s, engineTurn_idle hb, rfl⟩
  | true => exact ⟨_, engineTurn_of_busy hb, completion_agenda s⟩

/-- The engine's turn is the first of the agenda, or the agenda is empty (log entry 2). -/
theorem step_engineTurn {s : State} {rest : List Event} (h : s.agenda = .engine :: rest ∨ (s.agenda = [] ∧ rest = [])) :
    step s = engineTurn (setAgenda rest s) := by
  rcases h with ha | ⟨ha, rfl⟩
  · exact step_engine ha
  · have hsame : setAgenda [] s = s := by rw [setAgenda, ← ha]
    rw [step_nil ha, hsame]

/-- Settles O8: the engine's turn on a pending command, its outcome noted. -/
theorem stepRunsTheDecodedCommand : Obligations.StepRunsTheDecodedCommand := by
  intro s i rest hb hdecode _ ha
  rw [step_engineTurn ha, engineTurn_command (s := setAgenda rest s) hb hdecode, exec_eq, ← setAgenda, exec_eq]
  rfl

/-- Settles O56, by `engineTurn_setAgenda_illegal`. -/
theorem stepCompletesAnIllegalWord : Obligations.StepCompletesAnIllegalWord :=
  fun _ _ rest hb h ha => (step_engineTurn ha).trans (engineTurn_setAgenda_illegal hb h rest)

/-- Settles O47: the empty agenda leaves the turn to the engine, which is idle. -/
theorem idleStateStays : Obligations.IdleStateStays :=
  fun _ hb ha => (step_nil ha).trans (engineTurn_idle hb)

/-- Settles O48: the turn is the engine's, which is idle. -/
theorem engineDoesNothingWhileIdle : Obligations.EngineDoesNothingWhileIdle :=
  fun s rest hb ha => (step_engine ha).trans (engineTurn_idle (s := setAgenda rest s) hb)

/-! ### Every step answers a state -/

theorem serveBus_agenda (m : Master) (t : Txn) (s : State) : (serveBus m t s).agenda = s.agenda :=
  (serve_fst_agenda_trace t s).1

theorem serveSys_agenda (m : Master) (x : SysTxn) (s : State) : (serveSys m x s).agenda = s.agenda := by
  rw [serveSys]
  split
  · exact serveBus_agenda m _ s
  · rfl

/-- A step takes one turn off the agenda and answers a state, whoever's turn it is. -/
theorem exists_step (s : State) : ∃ t, step s = .next t ∧ t.agenda = s.agenda.tail := by
  cases ha : s.agenda with
  | nil =>
    obtain ⟨t, ht, hagenda⟩ := exists_engineTurn s
    exact ⟨t, (step_nil ha).trans ht, hagenda.trans ha⟩
  | cons e es =>
    cases e with
    | bus m t => exact ⟨_, step_bus ha, serveBus_agenda m t _⟩
    | sys m x => exact ⟨_, step_sys ha, serveSys_agenda m x _⟩
    | engine =>
      obtain ⟨t, ht, hagenda⟩ := exists_engineTurn (setAgenda es s)
      exact ⟨t, (step_engine ha).trans ht, hagenda⟩
    | reset p => exact ⟨_, step_reset ha, rfl⟩

/-- Settles O12, by induction on the number of steps. -/
theorem noRunEverStops : Obligations.NoRunEverStops := by
  intro n
  induction n with
  | zero => exact fun s => ⟨s, rfl⟩
  | succ n ih =>
    intro s
    obtain ⟨u, hu, _⟩ := exists_step s
    obtain ⟨t, ht⟩ := ih u
    exact ⟨t, (run_succ hu).trans ht⟩

/-- A pending command finishes within the agenda, or in the step after it, which is the engine's. -/
theorem exists_run_idle (es : List Event) : ∀ s : State, s.agenda = es →
    ∃ k t, k ≤ es.length + 1 ∧ Host.Core.run core k s = .next t ∧ t.busy = false := by
  induction es with
  | nil =>
    intro s ha
    obtain ⟨t, ht, _⟩ := exists_engineTurn s
    exact ⟨1, t, le_rfl, run_succ ((step_nil ha).trans ht), Safety.engineTurn_busy ht⟩
  | cons e es ih =>
    intro s ha
    obtain ⟨u, hu, hagenda⟩ := exists_step s
    rw [ha, List.tail_cons] at hagenda
    obtain ⟨k, t, hk, hrun, hbusy⟩ := ih u hagenda
    exact ⟨k + 1, t, by simpa using hk, (run_succ hu).trans hrun, hbusy⟩

/-- Settles O43, by induction on the agenda. -/
theorem pendingCommandsFinish : Obligations.PendingCommandsFinish :=
  fun s _ => exists_run_idle s.agenda s rfl

end Sys2Proof.Machine
end

section
/-! PROOFS of the statements about bus transactions (spec/20_memory.md, sections 1, 4, 6 and 7): what they leave alone, what a
written register reads, who issues them and where they reach the block. -/

namespace Sys2Proof.Machine

/-! ### What a transaction leaves alone -/

/-- Settles O40: the writable registers hold operands and the pending word. -/
theorem busNeverChangesResults : Obligations.BusNeverChangesResults := by
  intro s t m rest ha
  refine ⟨_, step_bus ha, serveBus_agenda m t _, ?_⟩
  rcases serve_cases t (setAgenda rest s) with ⟨_, h⟩ | ⟨_, _, _, _, h⟩ | ⟨r, v, s', _, _, _, _, hw, h⟩
  · simp [serveBus, h]
  · simp [serveBus, h]
  · rw [serveBus, h]
    rcases writeReg_eq_some hw with ⟨_, rfl⟩ | ⟨_, rfl⟩ | ⟨_, rfl⟩ | ⟨_, rfl⟩ | ⟨_, _, rfl⟩ <;> simp

/-- Settles O42, by `serve_of_busy`. -/
theorem operandsAreFrozenWhileBusy : Obligations.OperandsAreFrozenWhileBusy :=
  fun s t _ rest hb ha => ⟨_, step_bus_unchanged ha (Prod.ext (serve_of_busy (s := setAgenda rest s) hb t) rfl)⟩

/-- Settles O41: the platform's decode gives the block the offset, or nothing. -/
theorem windowIsDecodedFromTheBase : Obligations.WindowIsDecodedFromTheBase := by
  intro s x m rest ha
  refine ⟨fun off hoff => ?inside, fun hout => ?outside⟩
  case inside =>
    rw [step_sys ha, serveSys, route_inside _ x off hoff, step_bus rfl]
    rfl
  case outside =>
    rw [step_sys ha, serveSys, route_outside _ x hout]
    rfl

/-- A served transaction, with the master in the record only. -/
theorem serveBus_eq (m : Master) (t : Txn) (s : State) :
    serveBus m t s = { (serve t s).1 with trace := .served m t (serve t s).2 :: s.trace } := by
  rw [serveBus, record, (serve_fst_agenda_trace t s).2]

/-- Settles O59: `serve` has no master among its arguments. -/
theorem mastersAreNotToldApart : Obligations.MastersAreNotToldApart := by
  intro s t m n rest
  refine ⟨(serve t (setAgenda rest s)).1, (serve t (setAgenda rest s)).2, ?_, ?_⟩
  · rw [step_bus rfl]
    exact congrArg _ (serveBus_eq m t (setAgenda rest s))
  · rw [step_bus rfl]
    exact congrArg _ (serveBus_eq n t (setAgenda rest s))

/-! ### Reading what was written (spec/20_memory.md, section 6) -/

@[simp] theorem readReg_record (r : Reg) (o : Observation) (s : State) : readReg r (record o s) = readReg r s := rfl

/-- The half of COUNTER written reads the word, the other half reads as before. -/
theorem readReg_counter_writeCounterHi (v : Word) (s : State) :
    readReg .counterHi (writeCounterHi v s) = v ∧ readReg .counterLo (writeCounterHi v s) = readReg .counterLo s := by
  have hv := v.isLt
  constructor <;> apply BitVec.eq_of_toNat_eq
  · rw [readReg_counterHi_toNat, writeCounterHi_toNat]
    omega
  · rw [readReg_counterLo_toNat, readReg_counterLo_toNat, writeCounterHi_toNat]
    omega

theorem readReg_counter_writeCounterLo (v : Word) (s : State) :
    readReg .counterLo (writeCounterLo v s) = v ∧ readReg .counterHi (writeCounterLo v s) = readReg .counterHi s := by
  have hv := v.isLt
  constructor <;> apply BitVec.eq_of_toNat_eq
  · rw [readReg_counterLo_toNat, writeCounterLo_toNat]
    omega
  · rw [readReg_counterHi_toNat, readReg_counterHi_toNat, writeCounterLo_toNat]
    omega

theorem readReg_writeReg_same {r : Reg} {v : Word} {s s' : State} (hcmd : r ≠ .cmd) (h : writeReg r v s = some s') :
    readReg r s' = if r = .ctrl then v &&& 0x00000F03#32 else v := by
  rcases writeReg_eq_some h with ⟨rfl, rfl⟩ | ⟨rfl, _⟩ | ⟨rfl, rfl⟩ | ⟨rfl, rfl⟩ | ⟨k, rfl, rfl⟩
  · exact ctrl_image v
  · exact absurd rfl hcmd
  · exact (readReg_counter_writeCounterHi v s).1
  · exact (readReg_counter_writeCounterLo v s).1
  · exact (writeDigest_digest_getElem k k v s).trans (if_pos rfl)

theorem readReg_writeCtrl {q : Reg} (h : q ≠ .ctrl) (v : Word) (s : State) : readReg q (writeCtrl v s) = readReg q s := by
  cases q with
  | ctrl => exact absurd rfl h
  | id | cmd | status | dvalid | counterHi | counterLo | msgW0 | msgW1 | offset | trunc | value | dinfo
  | codeW0 | codeW1 | codeW2 | digestW => rfl

theorem readReg_writeCounterHi {q : Reg} (h : q ≠ .counterHi) (v : Word) (s : State) :
    readReg q (writeCounterHi v s) = readReg q s := by
  cases q with
  | counterHi => exact absurd rfl h
  | counterLo => exact (readReg_counter_writeCounterHi v s).2
  | id | ctrl | cmd | status | dvalid | msgW0 | msgW1 | offset | trunc | value | dinfo
  | codeW0 | codeW1 | codeW2 | digestW => rfl

theorem readReg_writeCounterLo {q : Reg} (h : q ≠ .counterLo) (v : Word) (s : State) :
    readReg q (writeCounterLo v s) = readReg q s := by
  cases q with
  | counterLo => exact absurd rfl h
  | counterHi => exact (readReg_counter_writeCounterLo v s).2
  | id | ctrl | cmd | status | dvalid | msgW0 | msgW1 | offset | trunc | value | dinfo
  | codeW0 | codeW1 | codeW2 | digestW => rfl

theorem readReg_writeDigest {q : Reg} {k : Fin 16} (h : q ≠ .digestW k) (hdvalid : q ≠ .dvalid) (v : Word) (s : State) :
    readReg q (writeDigest k v s) = readReg q s := by
  cases q with
  | dvalid => exact absurd rfl hdvalid
  | digestW j =>
    have hjk : j ≠ k := fun hjk => h (congrArg Reg.digestW hjk)
    exact (writeDigest_digest_getElem k j v s).trans (if_neg hjk)
  | id | ctrl | cmd | status | counterHi | counterLo | msgW0 | msgW1 | offset | trunc | value | dinfo
  | codeW0 | codeW1 | codeW2 => rfl

/-- The writable registers that store what is written. CMD does not: it reads 0 (spec/10_state.md R28). -/
theorem storage_register {r : Reg} (h : r = .ctrl ∨ r = .counterHi ∨ r = .counterLo ∨ ∃ k, r = .digestW k) :
    r ≠ .cmd ∧ r ∉ readOnlyRegs := by
  rcases h with rfl | rfl | rfl | ⟨k, rfl⟩ <;> simp [readOnlyRegs]

/-- Settles O38: each write's effect, read through the register map. -/
theorem readAfterWriteGivesTheWrittenValue : Obligations.ReadAfterWriteGivesTheWrittenValue := by
  intro s r v m rest hb hr ha
  obtain ⟨hcmd, hwritable⟩ := storage_register hr
  obtain ⟨s', hw⟩ := writeReg_isSome_of_writable hwritable v (setAgenda rest s)
  refine ⟨_, step_write hb ha hw, (readReg_record r _ s').trans (readReg_writeReg_same hcmd hw), fun q hq hdvalid => ?_⟩
  rw [readReg_record, ← readReg_setAgenda q rest s]
  rcases writeReg_eq_some hw with ⟨rfl, rfl⟩ | ⟨rfl, _⟩ | ⟨rfl, rfl⟩ | ⟨rfl, rfl⟩ | ⟨k, rfl, rfl⟩
  · exact readReg_writeCtrl hq v _
  · exact absurd rfl hcmd
  · exact readReg_writeCounterHi hq v _
  · exact readReg_writeCounterLo hq v _
  · exact readReg_writeDigest hq (fun hdv => hdvalid hdv k rfl) v _

/-! ### Writing the same again -/

theorem writeReg_setAgenda (r : Reg) (v : Word) (es : List Event) (s : State) :
    writeReg r v (setAgenda es s) = (writeReg r v s).map (setAgenda es) := by
  cases r <;> rfl

theorem writeReg_record (r : Reg) (v : Word) (o : Observation) (s : State) :
    writeReg r v (record o s) = (writeReg r v s).map (record o) := by
  cases r <;> rfl

theorem writeCounterHi_idem (v : Word) (s : State) : writeCounterHi v (writeCounterHi v s) = writeCounterHi v s := by
  have hcounter : (writeCounterHi v (writeCounterHi v s)).counter = (writeCounterHi v s).counter := by
    apply BitVec.eq_of_toNat_eq
    rw [writeCounterHi_toNat, writeCounterHi_toNat]
    omega
  exact congrArg (fun c => { s with counter := c }) hcounter

theorem writeCounterLo_idem (v : Word) (s : State) : writeCounterLo v (writeCounterLo v s) = writeCounterLo v s := by
  have hv := v.isLt
  have hcounter : (writeCounterLo v (writeCounterLo v s)).counter = (writeCounterLo v s).counter := by
    apply BitVec.eq_of_toNat_eq
    rw [writeCounterLo_toNat, writeCounterLo_toNat]
    omega
  exact congrArg (fun c => { s with counter := c }) hcounter

theorem writeDigest_idem (k : Fin 16) (v : Word) (s : State) : writeDigest k v (writeDigest k v s) = writeDigest k v s := by
  simp [writeDigest, Vector.set_set, BitVec.or_assoc]

/-- A write to a register that stores it changes nothing of a state that has the value stored. -/
theorem writeReg_idem {r : Reg} {v : Word} {s s' : State} (hcmd : r ≠ .cmd) (h : writeReg r v s = some s') :
    writeReg r v s' = some s' := by
  rcases writeReg_eq_some h with ⟨rfl, rfl⟩ | ⟨rfl, _⟩ | ⟨rfl, rfl⟩ | ⟨rfl, rfl⟩ | ⟨k, rfl, rfl⟩
  · rfl
  · exact absurd rfl hcmd
  · exact congrArg some (writeCounterHi_idem v s)
  · exact congrArg some (writeCounterLo_idem v s)
  · exact congrArg some (writeDigest_idem k v s)

theorem writeReg_busy {r : Reg} {v : Word} {s s' : State} (hcmd : r ≠ .cmd) (h : writeReg r v s = some s') :
    s'.busy = s.busy := by
  rcases writeReg_eq_some h with ⟨_, rfl⟩ | ⟨rfl, _⟩ | ⟨_, rfl⟩ | ⟨_, rfl⟩ | ⟨_, _, rfl⟩
  · rfl
  · exact absurd rfl hcmd
  · rfl
  · rfl
  · rfl

theorem writeReg_agenda {r : Reg} {v : Word} {s s' : State} (h : writeReg r v s = some s') : s'.agenda = s.agenda := by
  rcases writeReg_eq_some h with ⟨_, rfl⟩ | ⟨_, rfl⟩ | ⟨_, rfl⟩ | ⟨_, rfl⟩ | ⟨_, _, rfl⟩ <;> rfl

theorem writeReg_trace {r : Reg} {v : Word} {s s' : State} (h : writeReg r v s = some s') : s'.trace = s.trace := by
  rcases writeReg_eq_some h with ⟨_, rfl⟩ | ⟨_, rfl⟩ | ⟨_, rfl⟩ | ⟨_, rfl⟩ | ⟨_, _, rfl⟩ <;> rfl

/-- Settles O39: the second write finds its value stored, whatever the record and the agenda are by then. -/
theorem repeatedWriteChangesNothing : Obligations.RepeatedWriteChangesNothing := by
  intro s r v m n rest hb hr ha
  obtain ⟨hcmd, hwritable⟩ := storage_register hr
  obtain ⟨s', hw⟩ := writeReg_isSome_of_writable hwritable v (setAgenda (.bus n ⟨.write v, regOffset r, .word⟩ :: rest) s)
  have hidle : s'.busy = false := (writeReg_busy hcmd hw).trans hb
  have hagain (o) : writeReg r v (setAgenda rest (record o s')) = some (setAgenda rest (record o s')) := by
    rw [writeReg_setAgenda, writeReg_record, writeReg_idem hcmd hw]
    rfl
  exact ⟨_, _, step_write hb ha hw, step_write (s := record _ s') hidle (writeReg_agenda hw) (hagain _), rfl⟩

end Sys2Proof.Machine
end

section
/-! PROOFS of the statements about the order of turns and the host statements (spec/70_reset_and_hazards.md, section 3;
spec/30_encoding.md, section 3). The block is what a state is apart from its agenda and its trace: `onBlock` puts those two in
place of a state's own. -/

namespace Sys2Proof.Machine

open Sys2Proof.Safety

/-- The block of a state, with the agenda and the trace of the model's own given. -/
def onBlock (a : List Event) (tr : List Observation) (s : State) : State := { s with agenda := a, trace := tr }

theorem outcome_onBlock (i : Instr) (a : List Event) (tr : List Observation) (s : State) :
    outcome i (onBlock a tr s) = onBlock a tr (outcome i s) :=
  outcome_update rfl (by cases i <;> rfl) fun _ _ => rfl

/-- A completion reads neither the agenda nor the trace. -/
theorem completion_onBlock (a : List Event) (tr : List Observation) (s : State) :
    completion (onBlock a tr s) = onBlock a tr (completion s) := by
  cases h : decode s.pend with
  | command i => rw [completion_of_command h, completion_of_command (s := onBlock a tr s) h, outcome_onBlock]
  | illegal why =>
    rw [completion_of_illegal h, completion_of_illegal (s := onBlock a tr s) h]
    rfl

/-- The engine's turn on a pending command, as a step. -/
theorem step_engine_of_busy {s : State} {rest : List Event} (hb : s.busy = true) (ha : s.agenda = .engine :: rest) :
    step s = .next (onBlock rest (.completed (completion s).errcode :: s.trace) (completion s)) := by
  have hown : completion (setAgenda rest s) = onBlock rest s.trace (completion s) := completion_onBlock rest s.trace s
  rw [step_engine ha, engineTurn_of_busy (s := setAgenda rest s) hb, hown]
  rfl

/-- A read leaves the block, whatever it is answered. -/
theorem serve_read_fst {t : Txn} (h : t.access = .read) (s : State) : (serve t s).1 = s := by
  rcases serve_cases t s with ⟨_, hs⟩ | ⟨_, _, _, _, hs⟩ | ⟨_, _, _, haccess, _⟩
  · rw [hs]
  · rw [hs]
  · simp [h] at haccess

/-- A read, as a step: the block stays, and the response is noted. -/
theorem step_read {s : State} {t : Txn} {m : Master} {rest : List Event} (h : t.access = .read)
    (ha : s.agenda = .bus m t :: rest) : ∃ r, step s = .next (onBlock rest (.served m t r :: s.trace) s) :=
  ⟨_, step_bus_unchanged ha (Prod.ext (serve_read_fst h (setAgenda rest s)) rfl)⟩

/-- Settles O53: the read leaves the block, and the completion does not see the response noted. -/
theorem completionCommutesWithReads : Obligations.CompletionCommutesWithReads := by
  intro s t m rest hb hread ha
  obtain ⟨r, hu⟩ := step_read hread ha
  have hv := step_engine_of_busy (s := onBlock (.engine :: rest) (.served m t r :: s.trace) s) hb rfl
  have hu' := step_engine_of_busy (s := onBlock (.engine :: .bus m t :: rest) s.trace s) hb rfl
  rw [completion_onBlock] at hv hu'
  obtain ⟨r', hv'⟩ := step_read (s := onBlock (.bus m t :: rest) _ (completion s)) hread rfl
  exact ⟨_, _, _, _, hu, hv, hu', hv', rfl⟩

/-! ### RUN (spec/30_encoding.md R98) -/

/-- Any number of reads in a row leaves the block. -/
theorem run_reads (m : Master) (off : BitVec 8) (k n : Nat) : ∀ (s : State) (rest : List Event),
    s.agenda = List.replicate n (rdEvent m off) ++ rest →
    ∃ tr, Host.Core.run core (n + k) s = Host.Core.run core k (onBlock rest tr s) := by
  induction n with
  | zero =>
    rintro s rest rfl
    exact ⟨s.trace, by rw [Nat.zero_add]; rfl⟩
  | succ n ih =>
    intro s rest ha
    obtain ⟨r, hstep⟩ := step_read (t := ⟨.read, off, .word⟩) rfl ha
    obtain ⟨tr, hrun⟩ := ih (onBlock _ (.served m ⟨.read, off, .word⟩ r :: s.trace) s) rest rfl
    rw [Nat.succ_add]
    exact ⟨tr, (run_succ hstep).trans hrun⟩

/-- The acceptance of a word, as a step. -/
theorem step_accept {s : State} {m : Master} {w : Word} {es : List Event} (hb : s.busy = false)
    (ha : s.agenda = wrEvent m (regOffset .cmd) w :: es) :
    step s = .next (onBlock es (.served m ⟨.write w, regOffset .cmd, .word⟩ (.ok 0) :: s.trace) (accept w s)) :=
  step_write hb ha rfl

/-- WAIT on a pending command: the polls that see BUSY = 1, the completion, and the last poll. -/
theorem run_wait {s : State} {m : Master} {polls : Nat} {rest : List Event} (hb : s.busy = true)
    (ha : s.agenda = waitEvents m polls ++ rest) :
    ∃ tr, Host.Core.run core (polls + 2) s = .next (onBlock rest tr (completion s)) := by
  rw [waitEvents, List.append_assoc] at ha
  obtain ⟨tr, hpolls⟩ := run_reads m (regOffset .status) 2 polls s _ ha
  have hengine := step_engine_of_busy (s := onBlock (.engine :: rdEvent m (regOffset .status) :: rest) tr s) hb rfl
  rw [completion_onBlock] at hengine
  obtain ⟨r, hpoll⟩ := step_read (t := ⟨.read, regOffset .status, .word⟩) (m := m) (rest := rest)
    (s := onBlock (rdEvent m (regOffset .status) :: rest) (.completed (completion s).errcode :: tr) (completion s)) rfl rfl
  exact ⟨_, hpolls.trans ((run_succ hengine).trans (run_succ hpoll))⟩

/-- Settles O55: acceptance, and then the wait for the completion. -/
theorem runStatementCompletesTheCommand : Obligations.RunStatementCompletesTheCommand := by
  intro s i polls m rest hb ha
  have haccept := step_accept hb ha
  obtain ⟨tr, hwait⟩ := run_wait (s := onBlock (waitEvents m polls ++ rest) _ (accept (encode i) s)) rfl rfl
  have hpend : decode (accept (encode i) s).pend = .command i := decode_encode i
  rw [completion_onBlock, completion_of_command hpend] at hwait
  exact ⟨_, _, (run_succ haccept).trans hwait, exec_eq i _, rfl⟩

end Sys2Proof.Machine
end

section
/-! PROOF of the statement about SETCTR, SETCFG and SETDIG (spec/30_encoding.md, section 3). -/

namespace Sys2Proof.Machine

/-- A write to a register of an idle block, as a step: the register's effect on the block, and the response noted. -/
theorem step_wrEvent {s s' : State} {m : Master} {r : Reg} {v : Word} {es : List Event} (hb : s.busy = false)
    (ha : s.agenda = wrEvent m (regOffset r) v :: es) (h : writeReg r v s = some s') :
    step s = .next (onBlock es (.served m ⟨.write v, regOffset r, .word⟩ (.ok 0) :: s.trace) s') := by
  have hw : writeReg r v (setAgenda es s) = some (setAgenda es s') := by
    rw [writeReg_setAgenda, h]
    rfl
  rw [step_write hb ha hw, ← writeReg_trace h]
  rfl

/-! ### SETCTR and SETCFG -/

/-- COUNTER after its two halves were written. -/
theorem writeCounterLo_writeCounterHi (c : BitVec 64) (s : State) :
    writeCounterLo (c.extractLsb' 0 32) (writeCounterHi (c.extractLsb' 32 32) s) = { s with counter := c } := by
  have hcounter : (writeCounterLo (c.extractLsb' 0 32) (writeCounterHi (c.extractLsb' 32 32) s)).counter = c := by
    apply BitVec.eq_of_toNat_eq
    have hc := c.isLt
    rw [writeCounterLo_toNat, writeCounterHi_toNat, BitVec.extractLsb'_toNat, BitVec.extractLsb'_toNat,
      Nat.shiftRight_eq_div_pow, Nat.shiftRight_zero]
    omega
  exact congrArg (fun c => { s with counter := c }) hcounter

/-- The word of SETCFG has its operands in CTRL's fields (spec/10_state.md R24). -/
theorem writeCtrl_fields (a : BitVec 2) (n : BitVec 4) (s : State) :
    writeCtrl (0#20 ++ n ++ 0#6 ++ a) s = { s with alg := a, digits := n } := by
  have hword : (0#20 ++ n ++ 0#6 ++ a : Word).toNat = a.toNat + 2 ^ 8 * n.toNat :=
    readReg_ctrl_toNat { s with alg := a, digits := n }
  have hn : (0#20 ++ n ++ 0#6 ++ a : Word).extractLsb' 8 4 = n := by
    apply BitVec.eq_of_toNat_eq
    rw [BitVec.extractLsb'_toNat, hword, Nat.shiftRight_eq_div_pow]
    omega
  have ha : (0#20 ++ n ++ 0#6 ++ a : Word).extractLsb' 0 2 = a := by
    apply BitVec.eq_of_toNat_eq
    rw [BitVec.extractLsb'_toNat, hword, Nat.shiftRight_zero]
    omega
  rw [writeCtrl, ha, hn]

/-! ### SETDIG -/

/-- The digest words from k on, written one after the other. -/
def loadWords : Nat → List Word → State → State
  | _, [], s => s
  | k, w :: ws, s => loadWords (k + 1) ws (writeDigest (Fin.ofNat 16 k) w s)

theorem loadWords_onBlock (a : List Event) (tr : List Observation) (ws : List Word) : ∀ (k : Nat) (s : State),
    loadWords k ws (onBlock a tr s) = onBlock a tr (loadWords k ws s) := by
  induction ws with
  | nil => exact fun _ _ => rfl
  | cons w ws ih => exact fun k s => ih (k + 1) (writeDigest (Fin.ofNat 16 k) w s)

/-- Only the digest and DVALID change. -/
theorem loadWords_frame (ws : List Word) : ∀ (k : Nat) (s : State),
    loadWords k ws s = { s with digest := (loadWords k ws s).digest, dvalid := (loadWords k ws s).dvalid } := by
  induction ws with
  | nil => exact fun _ _ => rfl
  | cons w ws ih => exact fun k s => ih (k + 1) (writeDigest (Fin.ofNat 16 k) w s)

theorem fin_eq_ofNat_iff {k : Nat} (hk : k < 16) (j : Fin 16) : j = Fin.ofNat 16 k ↔ j.val = k := by
  rw [Fin.ext_iff, Fin.val_ofNat, Nat.mod_eq_of_lt hk]

/-- Word j is the word sent to it, if one was. -/
theorem loadWords_digest (ws : List Word) : ∀ (k : Nat) (s : State), k + ws.length ≤ 16 → ∀ j : Fin 16,
    (loadWords k ws s).digest[j] = if k ≤ j.val then ws[j.val - k]?.getD s.digest[j] else s.digest[j] := by
  induction ws with
  | nil => simp [loadWords]
  | cons w ws ih =>
    intro k s hlen j
    rw [List.length_cons] at hlen
    rw [loadWords, ih _ _ (by omega), writeDigest_digest_getElem]
    simp only [fin_eq_ofNat_iff (show k < 16 by omega)]
    rcases lt_trichotomy j.val k with hj | hj | hj
    · rw [if_neg (by omega), if_neg (by omega), if_neg (by omega)]
    · have hd : j.val - k = 0 := by omega
      rw [if_neg (by omega), if_pos hj, if_pos (by omega), hd]
      rfl
    · obtain ⟨i, hi⟩ : ∃ i, j.val - k = i + 1 := ⟨j.val - k - 1, by omega⟩
      have hi' : j.val - (k + 1) = i := by omega
      rw [if_pos (by omega), if_neg (by omega), if_pos (by omega), hi, hi', List.getElem?_cons_succ]

/-- DVALID has the bits of the words sent. -/
theorem loadWords_dvalid (ws : List Word) : ∀ (k : Nat) (s : State), k + ws.length ≤ 16 → ∀ j : Fin 16,
    (loadWords k ws s).dvalid.getLsbD j.val =
      (decide (k ≤ j.val ∧ j.val < k + ws.length) || s.dvalid.getLsbD j.val) := by
  induction ws with
  | nil => simp [loadWords]
  | cons w ws ih =>
    intro k s hlen j
    rw [List.length_cons] at hlen
    rw [loadWords, ih _ _ (by omega), writeDigest_dvalid_getLsbD]
    simp only [fin_eq_ofNat_iff (show k < 16 by omega), List.length_cons]
    by_cases hj : j.val = k
    · simp [hj]
    · have hrange : (k + 1 ≤ j.val ∧ j.val < k + 1 + ws.length) ↔ (k ≤ j.val ∧ j.val < k + (ws.length + 1)) := by omega
      rw [if_neg hj, decide_eq_decide.mpr hrange]

/-- The writes of SETDIG load its words. -/
theorem run_digestEvents (m : Master) (rest : List Event) (ws : List Word) : ∀ (k : Nat) (s : State),
    k + ws.length ≤ 16 → s.busy = false → s.agenda = digestEvents m k ws ++ rest →
    ∃ tr, Host.Core.run core ws.length s = .next (onBlock rest tr (loadWords k ws s)) := by
  induction ws with
  | nil =>
    rintro k s _ _ rfl
    exact ⟨s.trace, rfl⟩
  | cons w ws ih =>
    intro k s hlen hb ha
    rw [List.length_cons] at hlen
    have hoff : regOffset (.digestW (Fin.ofNat 16 k)) = BitVec.ofNat 8 (0x40 + 4 * k) := by
      rw [regOffset, Fin.val_ofNat, Nat.mod_eq_of_lt (by omega)]
    rw [digestEvents, List.cons_append, ← hoff] at ha
    have hstep := step_wrEvent hb ha rfl
    obtain ⟨tr, hrun⟩ := ih (k + 1) (onBlock (digestEvents m (k + 1) ws ++ rest) _ (writeDigest (Fin.ofNat 16 k) w s))
      (by omega) hb rfl
    rw [loadWords_onBlock] at hrun
    exact ⟨tr, (run_succ hstep).trans hrun⟩

/-- The bytes of SETDIG, a multiple of 4 and at most 64, stand in the first digest bytes. -/
theorem digestByte_loadWords {bytes : List Byte} {n : Nat} (hlen : bytes.length = 4 * n) (hn : n ≤ 16) (s : State)
    (i : Fin 64) : digestByte (loadWords 0 (packWords bytes) s).digest i =
      if h : i.val < bytes.length then bytes[i.val] else digestByte s.digest i := by
  have hwords := packWords_length n bytes hlen
  have hword := loadWords_digest (packWords bytes) 0 s (by omega) ⟨i.val / 4, by omega⟩
  simp only [Nat.zero_le, if_true, Nat.sub_zero, Fin.getElem_fin] at hword
  rw [digestByte, hword]
  split
  next hi =>
    have hk : i.val / 4 < (packWords bytes).length := by omega
    have hbyte := packWords_byte n bytes hlen (i.val / 4) hk ⟨i.val % 4, by omega⟩ (by simp only; omega)
    rw [List.getElem?_eq_getElem hk, Option.getD_some, hbyte]
    congr 1
    simp only
    omega
  next hi =>
    rw [List.getElem?_eq_none (by omega)]
    rfl

/-- Settles O54: each statement's writes are steps of an idle block, and together they load its operand. -/
theorem setStatementsLoadTheirOperands : Obligations.SetStatementsLoadTheirOperands := by
  refine ⟨?setctr, ?setcfg, ?setdig⟩
  case setctr =>
    intro s c m rest hb ha
    have hhi := step_wrEvent (r := .counterHi) hb ha rfl
    refine ⟨_, (run_succ hhi).trans (run_succ
      (step_wrEvent (m := m) (r := .counterLo) (v := c.extractLsb' 0 32) (es := rest) hb rfl rfl)), ?_⟩
    exact congrArg (onBlock rest _) (writeCounterLo_writeCounterHi c s)
  case setcfg =>
    intro s a n m rest hb ha
    refine ⟨_, step_wrEvent (r := .ctrl) hb ha rfl, ?_⟩
    exact congrArg (onBlock rest _) (writeCtrl_fields a n s)
  case setdig =>
    intro s bytes m rest hb hwf ha
    obtain ⟨hmul, hmax⟩ : bytes.length % 4 = 0 ∧ bytes.length ≤ 64 := by simpa [stmtWf] using hwf
    obtain ⟨n, hlen⟩ := Nat.dvd_of_mod_eq_zero hmul
    have hwords := packWords_length n bytes hlen
    have hquarter : bytes.length / 4 = n := by omega
    obtain ⟨tr, hrun⟩ := run_digestEvents m rest (packWords bytes) 0 s (by omega) hb ha
    rw [hwords] at hrun
    rw [hquarter]
    refine ⟨_, hrun, digestByte_loadWords hlen (by omega) s, fun k => ?_, ?_⟩
    · have hvalid := loadWords_dvalid (packWords bytes) 0 s (by omega) k
      simp only [hwords, Nat.zero_le, true_and, Nat.zero_add] at hvalid
      exact hvalid
    · exact congrArg (onBlock rest tr) (loadWords_frame (packWords bytes) 0 s)

end Sys2Proof.Machine
end
